-- ==== Sys2Proof/Word.lean ====
section
/-! DEFINITION. The plain values of the frame codec: bytes, 32-bit frames, the four bytes of one bus
transaction, 16-bit register values and exact quotients (spec 00_scope.md R6, R7; 43_conversions.md R116). -/

namespace Sys2Proof

/-- One byte on the bus (R6). -/
abbrev Byte := BitVec 8

/-- A 32-bit frame, bit 31 the most significant, bit 0 the least (R6, R45). -/
abbrev Frame := BitVec 32

/-- The unsigned 16-bit value of one chip register (R30). -/
abbrev RegValue := BitVec 16

/-- The four bytes one bus transaction moves each way; `b0` is buffer index 0, the first on the wire (R26, R28). -/
structure Quad where
  b0 : Byte
  b1 : Byte
  b2 : Byte
  b3 : Byte
  deriving DecidableEq, Repr, Inhabited

/-- An exact quotient `num / den`, kept as the spec writes it (`n/80`, `m/5`) and never rounded (R116). -/
structure Ratio where
  num : Int
  den : Nat
  deriving DecidableEq, Repr

/-- The rational number a quotient stands for. -/
def Ratio.toRat (q : Ratio) : Rat := (q.num : Rat) / (q.den : Rat)

end Sys2Proof
end

