-- ==== Sys2Proof/Config.lean ====
section
/-! DEFINITION. What is fixed outside the block: the open parameters of 00_scope.md R5, the opaque bus
configuration record of 10_state.md R16, the answers the outside world gives (handle allocation, `Configure`,
each `BusXfer`: 20_memory.md R43, 92_eei_decisions.md D21), and the two constants without a body that stand for
the answers nobody has written down. -/

namespace Sys2Proof

/-- `BUSCFG`, the bus configuration record handed to INIT. Its field widths and legal values are in no source and
no rule reads a field (R16, R143, U16). -/
structure BusCfg where
  busId        : Nat
  maxClock     : Nat
  transferMode : Nat
  chipSelect   : Nat
  deriving DecidableEq, Repr, Inhabited

/-- The open parameter `TEMP_BELOW_BIAS` (R115). -/
inductive TempBelowBias where
  /-- the subtraction is signed: `(t10 - 799) / 5`, negative -/
  | signed
  /-- the subtraction wraps in 32 bits: `(2^32 + t10 - 799) / 5` -/
  | wrap32
  /-- unset, the spec's default: the result is refused -/
  | unset
  deriving DecidableEq, Repr

/-- The open parameters of R5. Their constraints hold by construction: an address constant has seven bits
(R72), and `SD_BYTE0` is held as its low six bits because its bits 7 and 6 are clear (R50, D6). -/
structure Params where
  sdLow         : BitVec 6
  addrPid       : BitVec 7
  addrRate      : BitVec 7
  addrTemp      : BitVec 7
  tempBelowBias : TempBelowBias
  deriving DecidableEq, Repr

/-- What becomes of one bus transaction (R7, R41, R43). A transaction that completes hands the block the reply the
chip had pending, and the chip's reply to the command just sent is pending afterwards (R21, R36). -/
inductive BusAnswer where
  /-- the transaction completes; `reply` is the chip's reply to the command it carried, any four bytes -/
  | completes (reply : Quad)
  /-- the transaction fails with `BusTransferError`; `left` is whatever reply the chip has pending now (R102) -/
  | fails (left : Quad)
  /-- the transaction never returns (U10) -/
  | hangs
  /-- `RESET` arrives while the transaction is under way; `left` is what the chip has pending afterwards (R141) -/
  | resets (left : Quad)
  deriving DecidableEq, Repr, Inhabited

/-- The free inputs of one INIT: whether the handle can be created and whether `Configure` succeeds
(R121, R122). -/
structure HandleAnswer where
  allocated  : Bool
  configured : Bool
  deriving DecidableEq, Repr, Inhabited

/-- The free answer to the `n`-th bus transaction where the state lists none. No body: nothing is known of it
(R43, D21). -/
opaque Config.busAnswer : Nat → BusAnswer

/-- The free answer to the `n`-th INIT where the state lists none (R121, R122). No body. -/
opaque Config.handleAnswer : Nat → HandleAnswer

end Sys2Proof
end

