-- ==== Sys2Proof/Machine/Conversions.lean ====
section
/-! DEFINITION. The two unit conversions as exact quotients (43_conversions.md R110, R113, R115) and the
identification test (42_exchange_and_operations.md R98), with their constants (00_scope.md R5). -/

namespace Sys2Proof.Machine

/-- `RATE_SCALE` (R5). -/
def rateScale : Nat := 80

/-- `TEMP_SHIFT` (R5). -/
def tempShift : Nat := 6

/-- `TEMP_BIAS` (R5). -/
def tempBias : BitVec 32 := 0x31F#32

/-- `TEMP_DIV` (R5). -/
def tempDiv : Nat := 5

/-- `ID_PREFIX` (R5). -/
def idPrefix : Byte := 0x52#8

/-- `RATE(raw)` in degrees per second: the source's own two's-complement reconstruction at 16 bits (R110). -/
def rate (raw : RegValue) : Ratio :=
  if raw.toNat ≥ 0x8000 then ⟨-((0xFFFF - raw.toNat + 1 : Nat) : Int), rateScale⟩
  else ⟨(raw.toNat : Int), rateScale⟩

/-- The shifted temperature: the 16-bit value zero-extended to 32 bits, then shifted right (R113, R114). -/
def tempShifted (raw : RegValue) : BitVec 32 := raw.setWidth 32 >>> tempShift

/-- `TEMP(raw)` in degrees Celsius; none where the spec refuses the result, below the bias with
`TEMP_BELOW_BIAS` unset (R113, R115). -/
def temp (mode : TempBelowBias) (raw : RegValue) : Option Ratio :=
  let t10 := tempShifted raw
  if t10.toNat ≥ tempBias.toNat then some ⟨(t10.toNat : Int) - (tempBias.toNat : Int), tempDiv⟩
  else match mode with
    | .signed => some ⟨(t10.toNat : Int) - (tempBias.toNat : Int), tempDiv⟩
    | .wrap32 => some ⟨((t10 - tempBias).toNat : Int), tempDiv⟩
    | .unset => none

/-- The identification test: the upper byte of the identifier is `ID_PREFIX` (R98). -/
def identified (id : RegValue) : Bool := id.extractLsb' 8 8 == idPrefix

end Sys2Proof.Machine
end

