-- ==== Sys2Proof/Machine/Flags.lean ====
section
/-! DEFINITION. The block has no status flags (10_state.md R13). The one bit it computes is the parity bit of a
command frame: the parity generator of 40_encode.md R65 stands here. -/

namespace Sys2Proof.Machine

/-- The number of 1 bits among the low `n` bits of `v`. -/
def onesBelow {w : Nat} (v : BitVec w) : Nat → Nat
  | 0 => 0
  | n + 1 => (v.getLsbD n).toNat + onesBelow v n

/-- `popcount(v)`, the number of 1 bits in `v` (R7). -/
def popcount {w : Nat} (v : BitVec w) : Nat := onesBelow v w

/-- `PARITY_BIT(F)`: 1 exactly when the count over bits 31 down to 1 is even; bit 0 is not counted (R65). -/
def parityBit (f : Frame) : Bool := popcount (f.extractLsb' 1 31) % 2 == 0

/-- `PARITY(F)`: `F` with the parity bit OR-ed into bit 0, which is never cleared (R65, D26). -/
def parity (f : Frame) : Frame := f ||| (BitVec.ofBool (parityBit f)).setWidth 32

end Sys2Proof.Machine
end

