-- ==== Sys2Proof/Machine/Operands.lean ====
section
/-! DEFINITION. How operands and frames are put together: bytes of a frame and back (00_scope.md R6,
20_memory.md R26), named fields of a frame (30_encoding.md R46), the parameters as the encoders take them
(00_scope.md R5), and the test helper EMBED (41_decode.md R86). -/

namespace Sys2Proof.Machine

/-- `Bytes(F)`: the frame as four bytes, most significant first (R7, R26). -/
def bytes (f : Frame) : Quad :=
  ⟨f.extractLsb' 24 8, f.extractLsb' 16 8, f.extractLsb' 8 8, f.extractLsb' 0 8⟩

/-- `Frame(b0,b1,b2,b3)`: `b0 ++ b1 ++ b2 ++ b3` (R7, R26). -/
def frame (q : Quad) : Frame := q.b0 ++ q.b1 ++ q.b2 ++ q.b3

/-- `OPC`, frame bits 31:24 (R46). -/
def opcField (f : Frame) : Byte := f.extractLsb' 24 8

/-- `ADDR`, frame bits 23:17 (R46). -/
def addrField (f : Frame) : BitVec 7 := f.extractLsb' 17 7

/-- `DATA`, frame bits 16:1 (R46). -/
def dataField (f : Frame) : RegValue := f.extractLsb' 1 16

/-- A 7-bit address constant on the 8-bit address input (R5, R72). -/
def addrInput (a : BitVec 7) : Byte := a.setWidth 8

/-- `SD_BYTE0`, with bits 7 and 6 clear (R5, R50, D6). -/
def sdByte0 (p : Params) : Byte := p.sdLow.setWidth 8

/-- `EMBED(V, X)`: value `V` at bits 20:5 of filler `X`; a test helper, not a function of the block (R86). -/
def embed (v : RegValue) (x : Frame) : Frame := (x &&& 0xFFE0001F#32) ||| (v.setWidth 32 <<< 5)

end Sys2Proof.Machine
end

