-- ==== Sys2Proof/Syntax.lean ====
section
/-! DEFINITION. The operations of the block, one constructor per row of spec/opcode_table.json
(30_encoding.md R56, R60, R61). -/

namespace Sys2Proof

/-- One operation. Addresses are the 8 bits of the address input (R72, D4); `WellFormed` says which are within
contract. -/
inductive Instr where
  /-- `RDREG a`: read one 16-bit chip register (R94) -/
  | rdreg (a : Byte)
  /-- `WRREG a, v`: write one 16-bit chip register (R95) -/
  | wrreg (a : Byte) (v : RegValue)
  /-- `RDSENS`: read the 32-bit sensor-data word (R96) -/
  | rdsens
  /-- `INIT cfg`: open the session and identify the chip (R97) -/
  | init (cfg : BusCfg)
  /-- `RDRATE`: read the rate in degrees per second (R111) -/
  | rdrate
  /-- `RDTEMP`: read the temperature in degrees Celsius (R117) -/
  | rdtemp
  /-- row RSP_REG, `DEC_REG F`: decode a register-read response (R80) -/
  | rspReg (f : Frame)
  /-- row RSP_SENSOR, `DEC_SENSOR F`: decode a sensor-data response (R83) -/
  | rspSensor (f : Frame)
  deriving DecidableEq, Repr

end Sys2Proof
end

