-- ==== Sys2Proof/WellFormed.lean ====
section
/-! DEFINITION. Which operations are within contract: a register address has seven bits (40_encode.md R72).
Every other operand is legal at every value (30_encoding.md R53, 41_decode.md R88, 10_state.md R16). -/

namespace Sys2Proof

/-- An address input is within contract when it is at most 0x7F (R72). -/
def withinContract (a : Byte) : Bool := decide (a.toNat ≤ 0x7F)

/-- An operation is within contract when its address operand, if it has one, is (R72, R126). -/
def Instr.wellFormed : Instr → Bool
  | .rdreg a => withinContract a
  | .wrreg a _ => withinContract a
  | .rdsens => true
  | .init _ => true
  | .rdrate => true
  | .rdtemp => true
  | .rspReg _ => true
  | .rspSensor _ => true

end Sys2Proof
end

