-- ==== Sys2Proof/Machine/Codec.lean ====
section
/-! DEFINITION. The codec proper: the three command encoders (40_encode.md R67, R68, R69) and the two response
decoders (41_decode.md R80, R83), as pure total functions without state (10_state.md R10), and the encoder's
functional port with its address contract (00_scope.md R155, 40_encode.md R72). -/

namespace Sys2Proof.Machine

/-- `OPC_READ` (R5). -/
def opcRead : Byte := 0x80#8

/-- `OPC_WRITE` (R5). -/
def opcWrite : Byte := 0x40#8

/-- `ENC_READ`, the literal byte formulas of R67 (outside contract: R64). -/
def encRead (a : Byte) : Frame :=
  parity (frame ⟨opcRead ||| (a >>> 7), a <<< 1, 0x00#8, 0x00#8⟩)

/-- `ENC_WRITE`, the literal byte formulas of R68, each reduced to 8 bits when stored (R70, R63). -/
def encWrite (a : Byte) (v : RegValue) : Frame :=
  parity (frame ⟨opcWrite ||| (a >>> 7), (a <<< 1) ||| (v >>> 15).setWidth 8,
    (v >>> 7).setWidth 8, (v <<< 1).setWidth 8⟩)

/-- `ENC_SENSOR`, one constant for each value of `SD_BYTE0` (R69). -/
def encSensor (p : Params) : Frame :=
  parity (frame ⟨sdByte0 p, 0x00#8, 0x00#8, 0x00#8⟩)

/-- The `op` input of the encoder's port; no binary code is defined (R155). -/
inductive EncOp where
  | read
  | write
  | sensorData
  deriving DecidableEq, Repr

/-- The encoder's port: an address above 0x7F is refused, answered here by the offending address; the address is
unused for SENSOR_DATA and the value for READ and SENSOR_DATA (R155, R72). -/
def encoderPort (p : Params) (op : EncOp) (addr : Byte) (wdata : RegValue) : Except Byte Frame :=
  match op with
  | .read => if withinContract addr then .ok (encRead addr) else .error addr
  | .write => if withinContract addr then .ok (encWrite addr wdata) else .error addr
  | .sensorData => .ok (encSensor p)

/-- `DEC_REG`: the OR of the three shifted bytes, reduced to 16 bits (R80, R81). Nothing else of the frame is read
or checked (R82, R84). -/
def decReg (f : Frame) : RegValue :=
  (((bytes f).b1.setWidth 32 <<< 11) ||| ((bytes f).b2.setWidth 32 <<< 3)
    ||| ((bytes f).b3.setWidth 32 >>> 5)).setWidth 16

/-- `DEC_SENSOR`: the big-endian assembly of the four bytes, verbatim (R83). -/
def decSensor (f : Frame) : Frame :=
  ((bytes f).b0.setWidth 32 <<< 24) ||| ((bytes f).b1.setWidth 32 <<< 16)
    ||| ((bytes f).b2.setWidth 32 <<< 8) ||| (bytes f).b3.setWidth 32

end Sys2Proof.Machine
end

