-- ==== Sys2Proof/Decode.lean ====
section
/-! DEFINITION. From words to operations and back. The classifier of 30_encoding.md R56 reads a command word; a
word read under a named row of the opcode table gives that row's operation, since the three pseudo-operations share
RDREG's words (R61) and a response is not self-describing (R59, R85). The encoder writes each operation's word.
All functions are total and reject by name. -/

namespace Sys2Proof

open Sys2Proof.Machine

/-- The rows of spec/opcode_table.json. -/
inductive Row where
  | rdreg
  | wrreg
  | rdsens
  | init
  | rdrate
  | rdtemp
  | rspReg
  | rspSensor
  deriving DecidableEq, Repr

/-- What the classifier of R56 reads in a command word. -/
inductive Command where
  | read (a : BitVec 7)
  | write (a : BitVec 7) (v : RegValue)
  | sensorData
  deriving DecidableEq, Repr

/-- Why a word is rejected. -/
inductive DecodeError where
  /-- none of the three shapes of R56 (R57): an opcode byte or a reserved bit is wrong -/
  | notAFrame
  /-- the shape fits and bit 0 is not the parity bit of R65 (R57) -/
  | badParity
  /-- a frame of the block, but not of the row it is read under -/
  | otherOperation
  deriving DecidableEq, Repr

/-- The default parameters of R5. Those of the opcode byte and the addresses are general knowledge
(U6, U21); the unset `TEMP_BELOW_BIAS` is R115's default. -/
def defaultParams : Params :=
  { sdLow := 0x20#6, addrPid := 0x0C#7, addrRate := 0x00#7, addrTemp := 0x02#7, tempBelowBias := .unset }

/-- The shape of a command word, before its parity is looked at (R56). -/
def commandShape (p : Params) (w : Frame) : Option Command :=
  if opcField w = opcRead ∧ dataField w = 0#16 then some (.read (addrField w))
  else if opcField w = opcWrite then some (.write (addrField w) (dataField w))
  else if opcField w = sdByte0 p ∧ w.extractLsb' 1 23 = 0#23 then some .sensorData
  else none

/-- The classifier of R56: shape, then the parity bit. -/
def classify (p : Params) (w : Frame) : Except DecodeError Command :=
  match commandShape p w with
  | none => .error .notAFrame
  | some c => if w.getLsbD 0 = parityBit w then .ok c else .error .badParity

/-- The operation a command spells. -/
def Command.toInstr : Command → Instr
  | .read a => .rdreg (addrInput a)
  | .write a v => .wrreg (addrInput a) v
  | .sensorData => .rdsens

/-- The operation a command word spells (R56). -/
def decodeWord (p : Params) (w : Frame) : Except DecodeError Instr :=
  match classify p w with
  | .ok c => .ok c.toInstr
  | .error e => .error e

/-- The same, from the four bytes of a transaction (R26). -/
def decodeBytes (p : Params) (q : Quad) : Except DecodeError Instr := decodeWord p (frame q)

/-- A READ command of the one address `a` stands for the pseudo-operation `i`; any other word does not (R61). -/
def decodePseudo (p : Params) (a : BitVec 7) (i : Instr) (w : Frame) : Except DecodeError Instr :=
  match classify p w with
  | .ok (.read b) => if b = a then .ok i else .error .otherOperation
  | .ok (.write _ _) => .error .otherOperation
  | .ok .sensorData => .error .otherOperation
  | .error e => .error e

/-- The operation of a named row that the word spells. `cfg` is INIT's operand, which no frame carries
(R97); a response row accepts every word (R54, R55). -/
def decodeAs (p : Params) (r : Row) (cfg : BusCfg) (w : Frame) : Except DecodeError Instr :=
  match r with
  | .rdreg =>
    match classify p w with
    | .ok (.read a) => .ok (.rdreg (addrInput a))
    | .ok (.write _ _) => .error .otherOperation
    | .ok .sensorData => .error .otherOperation
    | .error e => .error e
  | .wrreg =>
    match classify p w with
    | .ok (.write a v) => .ok (.wrreg (addrInput a) v)
    | .ok (.read _) => .error .otherOperation
    | .ok .sensorData => .error .otherOperation
    | .error e => .error e
  | .rdsens =>
    match classify p w with
    | .ok .sensorData => .ok .rdsens
    | .ok (.read _) => .error .otherOperation
    | .ok (.write _ _) => .error .otherOperation
    | .error e => .error e
  | .init => decodePseudo p p.addrPid (.init cfg) w
  | .rdrate => decodePseudo p p.addrRate .rdrate w
  | .rdtemp => decodePseudo p p.addrTemp .rdtemp w
  | .rspReg => .ok (.rspReg w)
  | .rspSensor => .ok (.rspSensor w)

/-- The operation the table's numbering of a word spells, at the default parameters. Every frame is one 32-bit
word (R45); it is laid out as its four bytes, most significant first (R26), and read back. -/
def decodeTableWord (nbits w : Nat) : Option Instr :=
  if nbits ≤ 32 ∧ w < 2 ^ 32 then
    match decodeBytes defaultParams (bytes (BitVec.ofNat 32 w)) with
    | .ok i => some i
    | .error _ => none
  else none

/-- The row of the table an operation belongs to. -/
def Instr.row : Instr → Row
  | .rdreg _ => .rdreg
  | .wrreg _ _ => .wrreg
  | .rdsens => .rdsens
  | .init _ => .init
  | .rdrate => .rdrate
  | .rdtemp => .rdtemp
  | .rspReg _ => .rspReg
  | .rspSensor _ => .rspSensor

/-- The frame of an operation: the command it puts on the bus, or the response it decodes (R61, R54, R55). -/
def encode (p : Params) : Instr → Frame
  | .rdreg a => encRead a
  | .wrreg a v => encWrite a v
  | .rdsens => encSensor p
  | .init _ => encRead (addrInput p.addrPid)
  | .rdrate => encRead (addrInput p.addrRate)
  | .rdtemp => encRead (addrInput p.addrTemp)
  | .rspReg f => f
  | .rspSensor f => f

end Sys2Proof
end

