-- ==== Sys2Proof/Machine/State.lean ====
section
/-! DEFINITION. The state of the machine as plain data: what 10_state.md gives the block (R15 to R17), the chip's
pending reply the protocol exposes (R21), the bus log and the list of operations (R23, R12), and the model's own
fields for what comes from outside (R8, R43). With them the reasons a step can stop, and the state after reset
(R22). -/

namespace Sys2Proof.Machine

/-- `SESSION`. `BUSCFG` is stored with the session (R16) and so exists only while it is OPEN (R15, R22). -/
inductive Session where
  /-- `CLOSED`: no handle exists -/
  | closed
  /-- `OPEN`: a handle exists and its bus connection is open, under this `BUSCFG` -/
  | opened (cfg : BusCfg)
  deriving DecidableEq, Repr

/-- `PHASE`, where the sequencer is (R17). -/
inductive Phase where
  | idle
  | t1
  | t2
  | done
  deriving DecidableEq, Repr

/-- One entry of the bus log: four bytes sent, and the four bytes received, or none for a failure (R23, R102). -/
structure Transaction where
  sent     : Quad
  received : Option Quad
  deriving DecidableEq, Repr

/-- The closed enumeration of result codes; no number is specified (R120, R125). -/
inductive Status where
  | success
  | allocationFailure
  | busInitError
  | identificationMismatch
  | busTransferError
  deriving DecidableEq, Repr

/-- What an operation returns to the host (R60, R120). -/
inductive Result where
  /-- a 16-bit register value: RDREG, DEC_REG -/
  | value16 (v : RegValue)
  /-- a 32-bit sensor word: RDSENS, DEC_SENSOR -/
  | value32 (v : Frame)
  /-- degrees per second: RDRATE -/
  | rate (q : Ratio)
  /-- degrees Celsius: RDTEMP -/
  | temperature (q : Ratio)
  /-- WRREG returns nothing -/
  | nothing
  /-- INIT's result code, or the error that ended any operation -/
  | status (c : Status)
  deriving DecidableEq, Repr

/-- One item of what the host issues (R12, R60, R140). -/
inductive Issued where
  /-- an operation -/
  | operation (i : Instr)
  /-- an operation named by the four bytes of its command frame (R56) -/
  | frame (q : Quad)
  /-- the event `RESET` between two operations (R140) -/
  | reset
  deriving DecidableEq, Repr

/-- Why the machine stops for good. -/
inductive Fault where
  /-- Raised by any operation whose bus transaction never returns: the block blocks for ever and no rule unblocks it
  (U10). Safe: nothing further is claimed of the run. -/
  | busHangs
  deriving DecidableEq, Repr

/-- Why an operation is given no meaning. A refused operation voids the run: no claim can be proved about a run that
contains it (R126). All are safe. -/
inductive Refusal where
  /-- raised by exec's arm of an instruction without a meaning -/
  | notModelled (mnemonic : String)
  /-- raised by every bus operation but INIT while `SESSION = CLOSED` (R99, R127) -/
  | noSession
  /-- raised by INIT while `SESSION = OPEN` (R106, R127) -/
  | sessionAlreadyOpen
  /-- raised by RDREG and WRREG with an address above 0x7F (R72, R126) -/
  | contractViolation (a : Byte)
  /-- raised by RDTEMP below the bias while `TEMP_BELOW_BIAS` is unset (R115, R127) -/
  | tempBelowBias
  /-- raised by the step when the host names an operation by bytes that are no frame of the block (R57, R62) -/
  | notAFrame (q : Quad)
  deriving DecidableEq, Repr

/-- The machine's state. -/
structure State where
  /-- the open parameters of R5; the model's own field, no operation writes it (R23) -/
  params      : Params
  /-- `SESSION` with `BUSCFG` (R15, R16) -/
  session     : Session
  /-- `PHASE` (R17) -/
  phase       : Phase
  /-- `CMD`, the command frame of the running operation (R17) -/
  cmd         : Option Frame
  /-- `RX1`, what transaction 1 received (R17) -/
  rx1         : Option Frame
  /-- `RSP`, the response frame (R17) -/
  rsp         : Option Frame
  /-- `PENDING`, on the chip's side: the reply the next transaction receives (R21, R36) -/
  chipPending : Quad
  /-- the bus log, oldest first (R23) -/
  log         : List Transaction
  /-- the results returned to the host, oldest first; the host's record, no operation reads it (R13) -/
  returned    : List Result
  /-- what the host still issues, next first (R12) -/
  program     : List Issued
  /-- what becomes of the coming bus transactions, next first (R43) -/
  answers     : List BusAnswer
  /-- how many bus transactions have been answered; the model's own counter -/
  asked       : Nat
  /-- the free inputs of the coming INITs, next first (R121, R122) -/
  handles     : List HandleAnswer
  /-- how many INITs have been answered; the model's own counter -/
  inits       : Nat
  deriving DecidableEq, Repr

/-- The state after reset (R22): `SESSION = CLOSED`, `PHASE = IDLE`, no transient value, an empty bus log, nothing
issued and nothing answered yet. The parameters stand at R5's defaults; the chip's pending reply is unspecified by
every source and stands at zeros (DESIGN CHOICE, notes/assumptions/9.md). -/
def State.reset : State :=
  { params := defaultParams
    session := .closed
    phase := .idle
    cmd := none
    rx1 := none
    rsp := none
    chipPending := ⟨0#8, 0#8, 0#8, 0#8⟩
    log := []
    returned := []
    program := []
    answers := []
    asked := 0
    handles := []
    inits := 0 }

end Sys2Proof.Machine
end

