-- ==== Sys2Proof/Machine/Ops.lean ====
section
/-! DEFINITION. The operations every meaning is built from: the answers of the outside world (20_memory.md R43), one
bus transaction (R41), the two-transaction exchange (42_exchange_and_operations.md R90), how an operation ends, with
a result or with an error (60_exceptions.md R130), the checks before it starts (R129), the event RESET
(70_reset_and_hazards.md R140), and how the next operation is taken from the host (10_state.md R12). The block has
no memory of its own (20_memory.md R25); what an operation reads and writes on the far side goes through
`busXfer`. -/

namespace Sys2Proof.Machine

/-! ### The outside world -/

/-- What becomes of the `k`-th bus transaction from here: as listed, else a free value (R43, D21). -/
def State.busAnswer (s : State) (k : Nat) : BusAnswer :=
  match s.answers[k]? with
  | some a => a
  | none => Config.busAnswer (s.asked + k)

/-- The state once `n` bus transactions have been answered. -/
def State.answered (s : State) (n : Nat) : State :=
  { s with answers := s.answers.drop n, asked := s.asked + n }

/-- The free inputs of the next INIT: as listed, else a free value (R121, R122). -/
def State.handleAnswer (s : State) : HandleAnswer :=
  match s.handles with
  | h :: _ => h
  | [] => Config.handleAnswer s.inits

/-- The state once one INIT has been answered. -/
def State.handleAnswered (s : State) : State :=
  { s with handles := s.handles.drop 1, inits := s.inits + 1 }

/-! ### Updates -/

/-- The chip's pending reply is replaced (R21). -/
def State.withPending (s : State) (q : Quad) : State := { s with chipPending := q }

/-- One more entry at the end of the bus log (R23, R35). -/
def State.logged (s : State) (t : Transaction) : State := { s with log := s.log ++ [t] }

/-- An operation puts its command in `CMD` and enters transaction 1 (R90, R95). -/
def State.starts (s : State) (f : Frame) : State := { s with cmd := some f, phase := .t1 }

/-- Transaction 1 is over: its reply goes to `RX1`, which nothing reads (R90, R91). -/
def State.firstReply (s : State) (f : Frame) : State := { s with rx1 := some f, phase := .t2 }

/-- Transaction 2 is over: its reply goes to `RSP` (R90). -/
def State.secondReply (s : State) (f : Frame) : State := { s with rsp := some f, phase := .done }

/-- INIT has a handle and an open bus (R97). -/
def State.opens (s : State) (cfg : BusCfg) : State := { s with session := .opened cfg }

/-- One more result reaches the host. -/
def State.returns (s : State) (r : Result) : State := { s with returned := s.returned ++ [r] }

/-- The running operation is over: `PHASE = IDLE` and its values are gone (R17, R130). -/
def State.endsOperation (s : State) : State :=
  { s with phase := .idle, cmd := none, rx1 := none, rsp := none }

/-- The event RESET: the state of R22 for the block, an empty bus log, no bus transaction; what lies outside the
block is not touched (R140). -/
def State.afterReset (s : State) : State :=
  { s with session := .closed, phase := .idle, cmd := none, rx1 := none, rsp := none, log := [] }

/-! ### How an operation ends -/

/-- The operation completes and returns `r` to the host. -/
def finish (r : Result) (s : State) : Host.Outcome State Fault Refusal :=
  .next (s.endsOperation.returns r)

/-- Raising an error, the same for every error: the operation stops, the error is its result, nothing is saved and
control returns to the host, who may issue the next operation at once (R130, R131). -/
def raise (c : Status) (s : State) : Host.Outcome State Fault Refusal := finish (.status c) s

/-! ### The bus -/

/-- How a sequence of bus transactions ends. -/
inductive Bus (α : Type) where
  /-- all of them completed -/
  | ok (a : α) (s : State)
  /-- one failed, and no further one was issued (R102) -/
  | failed (s : State)
  /-- one never returned (U10) -/
  | hung
  /-- RESET arrived and abandoned the operation (R141) -/
  | abandoned (s : State)

/-- A sequence goes on only where everything so far completed (R102, R130). -/
def Bus.andThen {α β : Type} (b : Bus α) (k : α → State → Bus β) : Bus β :=
  match b with
  | .ok a s => k a s
  | .failed s => .failed s
  | .hung => .hung
  | .abandoned s => .abandoned s

/-- The operation's end after its bus sequence: on with the result, `BusTransferError` (R124), blocked for ever
(U10), or abandoned without a result (R141). -/
def Bus.conclude {α : Type} (b : Bus α) (k : α → State → Host.Outcome State Fault Refusal) :
    Host.Outcome State Fault Refusal :=
  match b with
  | .ok a s => k a s
  | .failed s => raise .busTransferError s
  | .hung => .fault .busHangs
  | .abandoned s => .next s

/-- `BusXfer(tx)`, one 4-byte full-duplex transaction (R25, R28, R41): the block receives the reply the chip had
pending, and the reply to `tx` is pending afterwards (R21, R36). A failure is logged and passed on (R42, R102). -/
def busXfer (tx : Quad) (s : State) : Bus Quad :=
  match s.busAnswer 0 with
  | .completes reply =>
    .ok s.chipPending (((s.answered 1).logged ⟨tx, some s.chipPending⟩).withPending reply)
  | .fails left => .failed (((s.answered 1).logged ⟨tx, none⟩).withPending left)
  | .hangs => .hung
  | .resets left => .abandoned ((s.answered 1).withPending left).afterReset

/-- `EXCHANGE F`: the identical command in two transactions, the first reply kept from everything, the second
returned; no retry (R90 to R93). -/
def exchange (f : Frame) (s : State) : Bus Frame :=
  (busXfer (bytes f) (s.starts f)).andThen fun r1 s1 =>
    (busXfer (bytes f) (s1.firstReply (frame r1))).andThen fun r2 s2 =>
      .ok (frame r2) (s2.secondReply (frame r2))

/-- `DEC_REG(EXCHANGE(ENC_READ a))`, the bus part of RDREG and of the pseudo-operations built on it
(R61, R94). -/
def readRegister (a : Byte) (s : State) : Bus RegValue :=
  (exchange (encRead a) s).andThen fun rsp t => .ok (decReg rsp) t

/-! ### Checks before an operation starts, in the order of R129 -/

/-- Every bus operation but INIT needs a session (R99). -/
def needSession (s : State) (k : Host.Outcome State Fault Refusal) : Host.Outcome State Fault Refusal :=
  match s.session with
  | .closed => .refused .noSession
  | .opened _ => k

/-- The command frame of an operation, or its refusal when the address is out of contract (R72, R126). -/
def withCommand (op : EncOp) (a : Byte) (v : RegValue) (s : State)
    (k : Frame → Host.Outcome State Fault Refusal) : Host.Outcome State Fault Refusal :=
  match encoderPort s.params op a v with
  | .error b => .refused (.contractViolation b)
  | .ok f => k f

/-! ### The decoder's port -/

/-- The `kind` input of the decoder's port, fixed by the operation in progress (R85, R155). -/
inductive RspKind where
  | reg
  | sensor
  deriving DecidableEq, Repr

/-- The decoder's port: `reg_value` or `sensor_value`, as the kind says (R155). -/
def decoderPort (kind : RspKind) (rsp : Frame) : Result :=
  match kind with
  | .reg => .value16 (decReg rsp)
  | .sensor => .value32 (decSensor rsp)

/-! ### Taking the next operation from the host -/

/-- What the host has for the block now. -/
inductive Fetched where
  /-- nothing: the block waits (R22) -/
  | waits
  /-- an operation, and the state in which it runs -/
  | run (i : Instr) (s : State)
  /-- the event RESET, and the state it strikes -/
  | reset (s : State)
  /-- four bytes that are no frame of the block (R57) -/
  | notAFrame (q : Quad)

/-- The list of operations is executed head first (R12). -/
def State.fetch (s : State) : Fetched :=
  match s.program with
  | [] => .waits
  | .operation i :: rest => .run i { s with program := rest }
  | .frame q :: rest =>
    match decodeBytes s.params q with
    | .ok i => .run i { s with program := rest }
    | .error _ => .notAFrame q
  | .reset :: rest => .reset { s with program := rest }

/-- The host issues the operation whose frame is the 32-bit word `w` next. -/
def State.issueWord (s : State) (w : Nat) : State :=
  { s with program := .frame (bytes (BitVec.ofNat 32 w)) :: s.program }

end Sys2Proof.Machine
end

