-- ==== Sys2Proof/Machine/Registers.lean ====
section
/-! DEFINITION. The meanings of the register operations RDREG and WRREG, the block's load and store
(42_exchange_and_operations.md R94, R95, R101). -/

namespace Sys2Proof.Machine

/-- `RDREG a` (R94): the frame of ENC_READ twice, the second reply read as layout RR. -/
def execRdreg (a : Byte) (s : State) : Host.Outcome State Fault Refusal :=
  needSession s <| withCommand .read a 0#16 s fun f =>
    (exchange f s).conclude fun rsp t => finish (decoderPort .reg rsp) t

/-- `WRREG a, v` (R95): the frame of ENC_WRITE once, the reply discarded (R44), nothing returned. -/
def execWrreg (a : Byte) (v : RegValue) (s : State) : Host.Outcome State Fault Refusal :=
  needSession s <| withCommand .write a v s fun f =>
    (busXfer (bytes f) (s.starts f)).conclude fun _ t => finish .nothing t

end Sys2Proof.Machine
end

