-- ==== Sys2Proof/Machine/Responses.lean ====
section
/-! DEFINITION. The meanings of the two response rows: the pure decoders the host may evaluate at any time, session
or not (41_decode.md R80, R83, R88; 70_reset_and_hazards.md R142). They touch neither the bus nor the block's
state; only their result reaches the host. -/

namespace Sys2Proof.Machine

/-- Row RSP_REG, `DEC_REG F` (R80). -/
def execRspReg (f : Frame) (s : State) : Host.Outcome State Fault Refusal :=
  .next (s.returns (decoderPort .reg f))

/-- Row RSP_SENSOR, `DEC_SENSOR F` (R83). -/
def execRspSensor (f : Frame) (s : State) : Host.Outcome State Fault Refusal :=
  .next (s.returns (decoderPort .sensor f))

end Sys2Proof.Machine
end

