-- ==== Sys2Proof/Machine/Sensor.lean ====
section
/-! DEFINITION. The meanings of the measuring operations: RDSENS (42_exchange_and_operations.md R96), RDRATE and
RDTEMP (43_conversions.md R111, R117). -/

namespace Sys2Proof.Machine

/-- `RDSENS` (R96): the frame of ENC_SENSOR twice, the second reply verbatim. -/
def execRdsens (s : State) : Host.Outcome State Fault Refusal :=
  needSession s <| withCommand .sensorData 0#8 0#16 s fun f =>
    (exchange f s).conclude fun rsp t => finish (decoderPort .sensor rsp) t

/-- `RDRATE` (R111): RDREG of `ADDR_RATE`, then RATE. -/
def execRdrate (s : State) : Host.Outcome State Fault Refusal :=
  needSession s <|
    (readRegister (addrInput s.params.addrRate) s).conclude fun raw t => finish (.rate (rate raw)) t

/-- `RDTEMP` (R117): RDREG of `ADDR_TEMP`, then TEMP; below the bias with the parameter unset the result is refused,
after the read (R115, R129). -/
def execRdtemp (s : State) : Host.Outcome State Fault Refusal :=
  needSession s <|
    (readRegister (addrInput s.params.addrTemp) s).conclude fun raw t =>
      match temp s.params.tempBelowBias raw with
      | some q => finish (.temperature q) t
      | none => .refused .tempBelowBias

end Sys2Proof.Machine
end

