-- ==== Sys2Proof/Machine/Session.lean ====
section
/-! DEFINITION. The meaning of INIT, the only operation that changes session state
(42_exchange_and_operations.md R97, R103). -/

namespace Sys2Proof.Machine

/-- `INIT cfg` (R97): allocate, configure, open the session, read `ADDR_PID`, compare the upper byte; the first step
that fails ends the operation (R129). Refused while a session is open (R106). -/
def execInit (cfg : BusCfg) (s : State) : Host.Outcome State Fault Refusal :=
  match s.session with
  | .opened _ => .refused .sessionAlreadyOpen
  | .closed =>
    if s.handleAnswer.allocated = false then raise .allocationFailure s.handleAnswered
    else if s.handleAnswer.configured = false then raise .busInitError s.handleAnswered
    else
      (readRegister (addrInput s.params.addrPid) (s.handleAnswered.opens cfg)).conclude fun id t =>
        if identified id then finish (.status .success) t else raise .identificationMismatch t

end Sys2Proof.Machine
end

