-- ==== Sys2Proof/Machine/Dispatch.lean ====
section
/-! DEFINITION. One arm per operation. -/

namespace Sys2Proof.Machine

def exec (i : Instr) (s : State) : Host.Outcome State Fault Refusal :=
  match i with
  | .rdreg a => Sys2Proof.Machine.execRdreg a s
  | .wrreg a v => Sys2Proof.Machine.execWrreg a v s
  | .rdsens => Sys2Proof.Machine.execRdsens s
  | .init cfg => Sys2Proof.Machine.execInit cfg s
  | .rdrate => Sys2Proof.Machine.execRdrate s
  | .rdtemp => Sys2Proof.Machine.execRdtemp s
  | .rspReg f => Sys2Proof.Machine.execRspReg f s
  | .rspSensor f => Sys2Proof.Machine.execRspSensor f s

end Sys2Proof.Machine
end

