-- ==== Sys2Proof/Machine/Step.lean ====
section
/-! DEFINITION. One step: the next item the host issues, run to completion (10_state.md R12). -/

namespace Sys2Proof.Machine

/-- One step. With nothing issued the block waits and nothing changes (R22); RESET makes no bus transaction
(R140). -/
def step (s : State) : Host.Outcome State Fault Refusal :=
  match s.fetch with
  | .waits => .next s
  | .run i t => exec i t
  | .reset t => .next t.afterReset
  | .notAFrame q => .refused (.notAFrame q)

/-- The state in which the next operation is the one the table's word `w` spells. -/
def State.withFetchWord (s : State) (_nbits w : Nat) : State := s.issueWord w

end Sys2Proof.Machine
end

