-- ==== Sys2Proof/Safety.lean ====
section
/-! DEFINITION. The terms claims are stated in: what counts as a good state between operations, and the states the
rules give after an operation, written out field by field and not through the machine's own operations. -/

namespace Sys2Proof.Machine

/-! ### Good states -/

/-- Between operations PHASE is IDLE and no transient value exists (10_state.md R17). -/
def State.Quiet (s : State) : Prop :=
  s.phase = .idle ∧ s.cmd = none ∧ s.rx1 = none ∧ s.rsp = none

/-- Every transaction in the bus log sent a frame of the block (30_encoding.md R57). -/
def State.SendsOnlyFrames (s : State) : Prop :=
  ∀ e ∈ s.log, ∃ c, classify s.params (frame e.sent) = .ok c

/-- A result the spec allows: a rate is `n/80` with `n` in -32768..32767, a temperature is `m/5` with `m` in the
range of R115's two readings (43_conversions.md R110, R113, R115, R116). -/
def Result.Allowed : Result → Prop
  | .value16 _ => True
  | .value32 _ => True
  | .rate q => q.den = 80 ∧ -32768 ≤ q.num ∧ q.num ≤ 32767
  | .temperature q => q.den = 5 ∧ -799 ≤ q.num ∧ q.num < 4294967296
  | .nothing => True
  | .status _ => True

/-- Every result the host got is allowed. -/
def State.ReturnsAllowed (s : State) : Prop := ∀ r ∈ s.returned, r.Allowed

/-- The invariant of every state between operations. -/
structure State.Inv (s : State) : Prop where
  quiet : s.Quiet
  framesOnly : s.SendsOnlyFrames
  allowed : s.ReturnsAllowed
  logAnswered : s.log.length ≤ s.asked

/-- No RESET strikes during the next two bus transactions (70_reset_and_hazards.md R141). -/
def State.Undisturbed (s : State) : Prop := ∀ k l, k < 2 → s.busAnswer k ≠ .resets l

/-! ### Bits and counts, independent of the parity generator -/

/-- How many of bits 31 down to 1 are set (40_encode.md R65). -/
def onesAboveBitZero (f : Frame) : Nat := (List.range 31).countP fun k => f.getLsbD (k + 1)

/-- How many of bits 31 down to 0 are set (40_encode.md R66). -/
def onesInFrame (f : Frame) : Nat := (List.range 32).countP fun k => f.getLsbD k

/-! ### The state after an operation -/

/-- After an operation whose two transactions both sent `f`: the first received the chip's pending reply, the second
`x`, the reply to the first; `y`, the reply to the second, is pending. The host has the result `r`
(20_memory.md R36, 42_exchange_and_operations.md R90). -/
def State.afterExchange (s : State) (f : Frame) (x y : Quad) (r : Result) : State :=
  { s with
    phase := .idle, cmd := none, rx1 := none, rsp := none
    chipPending := y
    log := s.log ++ [⟨bytes f, some s.chipPending⟩, ⟨bytes f, some x⟩]
    returned := s.returned ++ [r]
    answers := s.answers.drop 2, asked := s.asked + 2 }

/-- After an operation whose one transaction sent `f` and completed (R95). -/
def State.afterWrite (s : State) (f : Frame) (y : Quad) : State :=
  { s with
    phase := .idle, cmd := none, rx1 := none, rsp := none
    chipPending := y
    log := s.log ++ [⟨bytes f, some s.chipPending⟩]
    returned := s.returned ++ [.nothing]
    answers := s.answers.drop 1, asked := s.asked + 1 }

/-- After an operation whose first transaction failed (R102). -/
def State.afterFirstFailure (s : State) (f : Frame) (l : Quad) : State :=
  { s with
    phase := .idle, cmd := none, rx1 := none, rsp := none
    chipPending := l
    log := s.log ++ [⟨bytes f, none⟩]
    returned := s.returned ++ [.status .busTransferError]
    answers := s.answers.drop 1, asked := s.asked + 1 }

/-- After an operation whose second transaction failed (R102). -/
def State.afterSecondFailure (s : State) (f : Frame) (l : Quad) : State :=
  { s with
    phase := .idle, cmd := none, rx1 := none, rsp := none
    chipPending := l
    log := s.log ++ [⟨bytes f, some s.chipPending⟩, ⟨bytes f, none⟩]
    returned := s.returned ++ [.status .busTransferError]
    answers := s.answers.drop 2, asked := s.asked + 2 }

/-- The state INIT reads the identifier in: one INIT answered, the session open (R97 step 2). -/
def State.sessionOpened (s : State) (cfg : BusCfg) : State :=
  { s with session := .opened cfg, handles := s.handles.drop 1, inits := s.inits + 1 }

/-- After an INIT that failed before the bus was open (R121, R122). -/
def State.afterFailedInit (s : State) (c : Status) : State :=
  { s with
    phase := .idle, cmd := none, rx1 := none, rsp := none
    returned := s.returned ++ [.status c]
    handles := s.handles.drop 1, inits := s.inits + 1 }

/-- After RESET: the block's state of 10_state.md R22 and an empty bus log; all else as it was
(70_reset_and_hazards.md R140). -/
def State.afterResetEvent (s : State) : State :=
  { s with session := .closed, phase := .idle, cmd := none, rx1 := none, rsp := none, log := [] }

end Sys2Proof.Machine
end

