-- ==== Sys2Proof/Certificates/Slice0/Obligations.lean ====
section
/-! DEFINITION. The statements for the provers. Each docstring names the rule of spec/ a statement formalises. Where a
statement speaks of what becomes of a bus transaction it does so through `State.busAnswer`, so it holds for listed
answers and for the free ones alike. -/

open Sys2Proof Sys2Proof.Machine

/-! ### The parity generator and the encoders (40_encode.md, 30_encoding.md) -/

/-- R65: for a word with bit 0 clear, bits 31 down to 1 are kept and bit 0 is set exactly when the count over bits
31 down to 1 is even. The count here is not the generator's own. -/
def Obligations.ParityFollowsTheCountAboveBitZero : Prop :=
  ∀ f : Frame, f.getLsbD 0 = false →
    (∀ k, 1 ≤ k → (parity f).getLsbD k = f.getLsbD k) ∧
    (parity f).getLsbD 0 = decide (onesAboveBitZero f % 2 = 0)

/-- The spec's decision D26: the generator never clears bit 0 of a word that already has it set. No encoder presents
such a word. -/
def Obligations.ParityNeverClearsBitZero : Prop :=
  ∀ f : Frame, f.getLsbD 0 = true → parity f = f

/-- R74: every frame of the three encoders has an odd number of set bits, for all valid triples and every admissible
`SD_BYTE0`. -/
def Obligations.EveryCommandFrameHasOddWeight : Prop :=
  (∀ a : Byte, a.toNat ≤ 0x7F → onesInFrame (encRead a) % 2 = 1) ∧
  (∀ (a : Byte) (v : RegValue), a.toNat ≤ 0x7F → onesInFrame (encWrite a v) % 2 = 1) ∧
  (∀ p : Params, onesInFrame (encSensor p) % 2 = 1)

/-- R47: format CR, every bit of the frame, for every address within contract. Nothing is said of the frame of an
address above 0x7F, since no claim may rest on it (R64). -/
def Obligations.ReadFrameLayout : Prop :=
  ∀ a : Byte, a.toNat ≤ 0x7F →
    (encRead a).extractLsb' 25 7 = 0b1000000#7 ∧
    (encRead a).getLsbD 24 = a.getLsbD 7 ∧
    (encRead a).extractLsb' 17 7 = a.extractLsb' 0 7 ∧
    (encRead a).extractLsb' 1 16 = 0#16 ∧
    (encRead a).getLsbD 0 = decide (onesAboveBitZero (encRead a) % 2 = 0) ∧
    (encRead a).extractLsb' 24 8 = 0x80#8

/-- R48: format CW, every bit of the frame, for every address within contract and every value. -/
def Obligations.WriteFrameLayout : Prop :=
  ∀ (a : Byte) (v : RegValue), a.toNat ≤ 0x7F →
    (encWrite a v).extractLsb' 24 8 = 0x40#8 ∧
    (encWrite a v).extractLsb' 17 7 = a.extractLsb' 0 7 ∧
    (encWrite a v).extractLsb' 1 16 = v ∧
    (encWrite a v).getLsbD 0 = decide (onesAboveBitZero (encWrite a v) % 2 = 0)

/-- R49: format CS, every bit of the frame, for every admissible `SD_BYTE0`. -/
def Obligations.SensorFrameLayout : Prop :=
  ∀ p : Params,
    (encSensor p).extractLsb' 24 8 = sdByte0 p ∧
    (encSensor p).extractLsb' 1 23 = 0#23 ∧
    (encSensor p).getLsbD 0 = decide (onesAboveBitZero (encSensor p) % 2 = 0)

/-- R73: the encoders are injective with disjoint ranges, and the address and value read back from the frame. -/
def Obligations.EncodersAreInjectiveAndDisjoint : Prop :=
  ∀ (p : Params) (a b : Byte) (v w : RegValue), a.toNat ≤ 0x7F → b.toNat ≤ 0x7F →
    (encRead a = encRead b → a = b) ∧
    (encWrite a v = encWrite b w → a = b ∧ v = w) ∧
    encRead a ≠ encWrite b w ∧ encRead a ≠ encSensor p ∧ encWrite a v ≠ encSensor p ∧
    (addrField (encRead a)).setWidth 8 = a ∧
    (addrField (encWrite a v)).setWidth 8 = a ∧ dataField (encWrite a v) = v

/-! ### The decoders (41_decode.md) -/

/-- R80: DEC_REG is the slice of bits 20 down to 5. -/
def Obligations.DecRegIsTheSliceTwentyToFive : Prop :=
  ∀ f : Frame, decReg f = f.extractLsb' 5 16

/-- R82: two frames that agree on bits 20 down to 5 decode to the same value. -/
def Obligations.DecRegIgnoresTheOtherBits : Prop :=
  ∀ f g : Frame, (∀ k, 5 ≤ k → k ≤ 20 → f.getLsbD k = g.getLsbD k) → decReg f = decReg g

/-- R86: DEC_REG inverts the embedding of a value at bits 20 down to 5, for every filler. -/
def Obligations.DecRegInvertsEmbed : Prop :=
  ∀ (v : RegValue) (x : Frame), decReg (embed v x) = v

/-- R87: DEC_REG of a write frame is the low four address bits followed by the top twelve value bits. -/
def Obligations.DecRegOfAWriteFrame : Prop :=
  ∀ (a : Byte) (v : RegValue), a.toNat ≤ 0x7F →
    decReg (encWrite a v) = a.extractLsb' 0 4 ++ v.extractLsb' 4 12

/-- R83: DEC_SENSOR is the identity on frames and the big-endian assembly on bytes. -/
def Obligations.DecSensorIsVerbatim : Prop :=
  (∀ f : Frame, decSensor f = f) ∧
  (∀ q : Quad, decSensor (frame q) = q.b0 ++ q.b1 ++ q.b2 ++ q.b3)

/-- R26: taking a frame apart into bytes and putting bytes together are inverse to each other. -/
def Obligations.FramesAndBytesAreInverse : Prop :=
  (∀ f : Frame, frame (bytes f) = f) ∧ (∀ q : Quad, bytes (frame q) = q)

/-! ### Decoding and encoding agree (30_encoding.md R56, R57, R61) -/

/-- For every operation within contract, reading its frame under its own row gives it back, whatever the
parameters. INIT's configuration travels beside the frame (R97). -/
def Obligations.DecodeAsInvertsEncode : Prop :=
  ∀ (p : Params) (i : Instr) (cfg : BusCfg), i.wellFormed = true → (∀ c, i = .init c → c = cfg) →
    decodeAs p i.row cfg (encode p i) = .ok i

/-- The classifier reads the three core operations back from their frames, and each pseudo-operation's frame as
the RDREG it looks like on the bus (R56, R61). -/
def Obligations.CommandFramesAreClassified : Prop :=
  ∀ (p : Params) (a : Byte) (v : RegValue) (cfg : BusCfg), a.toNat ≤ 0x7F →
    decodeWord p (encode p (.rdreg a)) = .ok (.rdreg a) ∧
    decodeWord p (encode p (.wrreg a v)) = .ok (.wrreg a v) ∧
    decodeWord p (encode p .rdsens) = .ok .rdsens ∧
    decodeWord p (encode p (.init cfg)) = .ok (.rdreg (p.addrPid.setWidth 8)) ∧
    decodeWord p (encode p .rdrate) = .ok (.rdreg (p.addrRate.setWidth 8)) ∧
    decodeWord p (encode p .rdtemp) = .ok (.rdreg (p.addrTemp.setWidth 8))

/-- A word the classifier accepts is the frame of the core operation it answers, which is within contract: every
other word is one the block never transmits (R57). -/
def Obligations.AcceptedWordsAreEncoded : Prop :=
  ∀ (p : Params) (w : Frame) (i : Instr), decodeWord p w = .ok i →
    i.wellFormed = true ∧ encode p i = w ∧ (i.row = .rdreg ∨ i.row = .wrreg ∨ i.row = .rdsens)

/-- A few words written out from the tables of R47, R48 and R49 decode to the operation they stand for, and two
that R57 lists decode to none. The word of RDSENS is at the default `SD_BYTE0` (notes/assumptions/4.md). -/
def Obligations.WrittenOutWordsDecode : Prop :=
  decodeTableWord 32 0x80AA0000 = some (.rdreg 0x55#8) ∧
  decodeTableWord 32 0x80180000 = some (.rdreg 0x0C#8) ∧
  decodeTableWord 32 0x4018A468 = some (.wrreg 0x0C#8 0x5234#16) ∧
  decodeTableWord 32 0x40010001 = some (.wrreg 0x00#8 0x8000#16) ∧
  decodeTableWord 32 0x20000000 = some .rdsens ∧
  decodeTableWord 32 0x80180001 = none ∧
  decodeTableWord 32 0xC0000001 = none

/-! ### The conversions (43_conversions.md) and the identification test -/

/-- R110: RATE is the source's own reconstruction, two branches over 80, from -409.6 to 409.5875. -/
def Obligations.RateFollowsTheTwoBranches : Prop :=
  ∀ raw : RegValue,
    (0x8000 ≤ raw.toNat → rate raw = ⟨-((0xFFFF : Int) - raw.toNat + 1), 80⟩) ∧
    (raw.toNat < 0x8000 → rate raw = ⟨raw.toNat, 80⟩) ∧
    -4096 / 10 ≤ (rate raw).toRat ∧ (rate raw).toRat ≤ 4095875 / 10000

/-- RATE is the two's-complement value at exactly 16 bits, over 80: an equivalence the spec derives in
43_conversions.md section 1. -/
def Obligations.RateIsTwosComplementOverEighty : Prop :=
  ∀ raw : RegValue, (rate raw).toRat = (raw.toInt : Rat) / 80

/-- R113, R115: TEMP at and above the bias whatever the parameter, and below it for each of its values. -/
def Obligations.TemperatureFormula : Prop :=
  ∀ (mode : TempBelowBias) (raw : RegValue),
    (799 ≤ raw.toNat / 64 → temp mode raw = some ⟨(raw.toNat / 64 : Int) - 799, 5⟩) ∧
    (raw.toNat / 64 < 799 → temp .signed raw = some ⟨(raw.toNat / 64 : Int) - 799, 5⟩) ∧
    (raw.toNat / 64 < 799 → temp .wrap32 raw = some ⟨(2 : Int) ^ 32 + (raw.toNat / 64 : Int) - 799, 5⟩) ∧
    (raw.toNat / 64 < 799 → temp .unset raw = none)

/-- R98: the test passes for exactly the identifiers 0x5200 to 0x52FF, and compares response bits 20 to 13. -/
def Obligations.IdentificationComparesTheUpperByte : Prop :=
  (∀ id : RegValue, identified id = true ↔ 0x5200 ≤ id.toNat ∧ id.toNat ≤ 0x52FF) ∧
  (∀ f : Frame, identified (decReg f) = true ↔ f.extractLsb' 13 8 = 0x52#8)

/-! ### The bus (20_memory.md, 42_exchange_and_operations.md) -/

/-- R36: of two transactions in a row, the second receives the chip's reply to the command of the first. -/
def Obligations.RepliesLagByOneTransaction : Prop :=
  ∀ (tx tx' r r' : Quad) (s : State),
    s.busAnswer 0 = .completes r → s.busAnswer 1 = .completes r' →
    ∃ t, (busXfer tx s).andThen (fun _ u => busXfer tx' u) = .ok r t ∧ t.chipPending = r' ∧
      t.log = s.log ++ [⟨tx, some s.chipPending⟩, ⟨tx', some r⟩]

/-- R90, R92, R102: the exchange sends the identical four bytes twice and returns the second reply; it stops at the
first failure, which is logged. That no second transaction follows a failed first one is the spec's decision D13
(notes/assumptions/16.md). -/
def Obligations.ExchangeSendsTwiceAndStopsAtAFailure : Prop :=
  ∀ (f : Frame) (s : State),
    (∀ x y, s.busAnswer 0 = .completes x → s.busAnswer 1 = .completes y →
      ∃ t, exchange f s = .ok (frame x) t ∧ t.session = s.session ∧ t.returned = s.returned ∧
        t.log = s.log ++ [⟨bytes f, some s.chipPending⟩, ⟨bytes f, some x⟩]) ∧
    (∀ l, s.busAnswer 0 = .fails l →
      ∃ t, exchange f s = .failed t ∧ t.session = s.session ∧ t.returned = s.returned ∧
        t.log = s.log ++ [⟨bytes f, none⟩]) ∧
    (∀ x l, s.busAnswer 0 = .completes x → s.busAnswer 1 = .fails l →
      ∃ t, exchange f s = .failed t ∧ t.session = s.session ∧ t.returned = s.returned ∧
        t.log = s.log ++ [⟨bytes f, some s.chipPending⟩, ⟨bytes f, none⟩])

/-- R91: what the first transaction of an operation receives has no effect on what it returns, on the session, or on
what is sent. -/
def Obligations.TheFirstReplyHasNoEffect : Prop :=
  ∀ (i : Instr) (s t : State) (q : Quad), exec i s = .next t →
    ∃ t', exec i { s with chipPending := q } = .next t' ∧ t'.returned = t.returned ∧
      t'.session = t.session ∧ t'.log.map (·.sent) = t.log.map (·.sent) ∧ t'.program = t.program

/-- R16: no field of the bus configuration has an effect on a result, a session bit, or the bus. -/
def Obligations.TheBusConfigurationHasNoEffect : Prop :=
  (∀ (i : Instr) (s t : State) (c d : BusCfg), s.session = .opened c → exec i s = .next t →
    ∃ t', exec i { s with session := .opened d } = .next t' ∧ t'.returned = t.returned ∧ t'.log = t.log ∧
      (t'.session = .closed ↔ t.session = .closed)) ∧
  (∀ (s t : State) (c d : BusCfg), exec (.init c) s = .next t →
    ∃ t', exec (.init d) s = .next t' ∧ t'.returned = t.returned ∧ t'.log = t.log ∧
      (t'.session = .closed ↔ t.session = .closed))

/-! ### The operations. Each clause that answers a next state gives the whole of it, so it is its own frame. -/

/-- R94: RDREG completes with bits 20 to 5 of the second reply; a failed transaction ends it with BusTransferError;
out of contract or without a session it is refused. -/
def Obligations.RdregReadsARegister : Prop :=
  ∀ (a : Byte) (s : State),
    (∀ cfg x y, s.session = .opened cfg → a.toNat ≤ 0x7F →
      s.busAnswer 0 = .completes x → s.busAnswer 1 = .completes y →
      exec (.rdreg a) s =
        .next (s.afterExchange (encRead a) x y (.value16 ((frame x).extractLsb' 5 16)))) ∧
    (∀ cfg l, s.session = .opened cfg → a.toNat ≤ 0x7F → s.busAnswer 0 = .fails l →
      exec (.rdreg a) s = .next (s.afterFirstFailure (encRead a) l)) ∧
    (∀ cfg x l, s.session = .opened cfg → a.toNat ≤ 0x7F →
      s.busAnswer 0 = .completes x → s.busAnswer 1 = .fails l →
      exec (.rdreg a) s = .next (s.afterSecondFailure (encRead a) l)) ∧
    (∀ cfg, s.session = .opened cfg → 0x80 ≤ a.toNat →
      exec (.rdreg a) s = .refused (.contractViolation a)) ∧
    (s.session = .closed → exec (.rdreg a) s = .refused .noSession)

/-- R95: WRREG completes after exactly one transaction and returns nothing; its failure, and its refusals. -/
def Obligations.WrregWritesARegisterOnce : Prop :=
  ∀ (a : Byte) (v : RegValue) (s : State),
    (∀ cfg y, s.session = .opened cfg → a.toNat ≤ 0x7F → s.busAnswer 0 = .completes y →
      exec (.wrreg a v) s = .next (s.afterWrite (encWrite a v) y)) ∧
    (∀ cfg l, s.session = .opened cfg → a.toNat ≤ 0x7F → s.busAnswer 0 = .fails l →
      exec (.wrreg a v) s = .next (s.afterFirstFailure (encWrite a v) l)) ∧
    (∀ cfg, s.session = .opened cfg → 0x80 ≤ a.toNat →
      exec (.wrreg a v) s = .refused (.contractViolation a)) ∧
    (s.session = .closed → exec (.wrreg a v) s = .refused .noSession)

/-- R96: RDSENS completes with all 32 bits of the second reply; its failures, and its refusal. -/
def Obligations.RdsensReadsTheSensorWord : Prop :=
  ∀ s : State,
    (∀ cfg x y, s.session = .opened cfg → s.busAnswer 0 = .completes x → s.busAnswer 1 = .completes y →
      exec .rdsens s = .next (s.afterExchange (encSensor s.params) x y (.value32 (frame x)))) ∧
    (∀ cfg l, s.session = .opened cfg → s.busAnswer 0 = .fails l →
      exec .rdsens s = .next (s.afterFirstFailure (encSensor s.params) l)) ∧
    (∀ cfg x l, s.session = .opened cfg → s.busAnswer 0 = .completes x → s.busAnswer 1 = .fails l →
      exec .rdsens s = .next (s.afterSecondFailure (encSensor s.params) l)) ∧
    (s.session = .closed → exec .rdsens s = .refused .noSession)

/-- R111: RDRATE completes with RATE of the register at `ADDR_RATE`; its failures, and its refusal. -/
def Obligations.RdrateReadsTheRate : Prop :=
  ∀ s : State,
    (∀ cfg x y, s.session = .opened cfg → s.busAnswer 0 = .completes x → s.busAnswer 1 = .completes y →
      exec .rdrate s = .next (s.afterExchange (encRead (s.params.addrRate.setWidth 8)) x y
        (.rate ⟨((frame x).extractLsb' 5 16).toInt, 80⟩))) ∧
    (∀ cfg l, s.session = .opened cfg → s.busAnswer 0 = .fails l →
      exec .rdrate s = .next (s.afterFirstFailure (encRead (s.params.addrRate.setWidth 8)) l)) ∧
    (∀ cfg x l, s.session = .opened cfg → s.busAnswer 0 = .completes x → s.busAnswer 1 = .fails l →
      exec .rdrate s = .next (s.afterSecondFailure (encRead (s.params.addrRate.setWidth 8)) l)) ∧
    (s.session = .closed → exec .rdrate s = .refused .noSession)

/-- R117: RDTEMP completes with TEMP of the register at `ADDR_TEMP`, at and above the bias and, for the two set
values of `TEMP_BELOW_BIAS`, below it; unset it is refused there; its failures, and its refusal without a
session. -/
def Obligations.RdtempReadsTheTemperature : Prop :=
  ∀ s : State,
    (∀ cfg x y, s.session = .opened cfg → s.busAnswer 0 = .completes x → s.busAnswer 1 = .completes y →
      (799 ≤ ((frame x).extractLsb' 5 16).toNat / 64 ∨ s.params.tempBelowBias = .signed →
        exec .rdtemp s = .next (s.afterExchange (encRead (s.params.addrTemp.setWidth 8)) x y
          (.temperature ⟨(((frame x).extractLsb' 5 16).toNat / 64 : Int) - 799, 5⟩))) ∧
      (((frame x).extractLsb' 5 16).toNat / 64 < 799 → s.params.tempBelowBias = .wrap32 →
        exec .rdtemp s = .next (s.afterExchange (encRead (s.params.addrTemp.setWidth 8)) x y
          (.temperature ⟨(2 : Int) ^ 32 + (((frame x).extractLsb' 5 16).toNat / 64 : Int) - 799, 5⟩))) ∧
      (((frame x).extractLsb' 5 16).toNat / 64 < 799 → s.params.tempBelowBias = .unset →
        exec .rdtemp s = .refused .tempBelowBias)) ∧
    (∀ cfg l, s.session = .opened cfg → s.busAnswer 0 = .fails l →
      exec .rdtemp s = .next (s.afterFirstFailure (encRead (s.params.addrTemp.setWidth 8)) l)) ∧
    (∀ cfg x l, s.session = .opened cfg → s.busAnswer 0 = .completes x → s.busAnswer 1 = .fails l →
      exec .rdtemp s = .next (s.afterSecondFailure (encRead (s.params.addrTemp.setWidth 8)) l)) ∧
    (s.session = .closed → exec .rdtemp s = .refused .noSession)

/-- R97, R121, R122, R129: INIT runs its three steps in order and the first that fails ends it. Without a handle or
an open bus it makes no transaction and the session stays closed; with both, the session is open whatever becomes of
the identification read, which returns Success exactly when bits 20 to 13 of the second reply are 0x52. -/
def Obligations.InitRunsItsThreeStepsInOrder : Prop :=
  ∀ (cfg : BusCfg) (s : State), s.session = .closed →
    (s.handleAnswer.allocated = false →
      exec (.init cfg) s = .next (s.afterFailedInit .allocationFailure)) ∧
    (s.handleAnswer = ⟨true, false⟩ →
      exec (.init cfg) s = .next (s.afterFailedInit .busInitError)) ∧
    (s.handleAnswer = ⟨true, true⟩ →
      (∀ x y, s.busAnswer 0 = .completes x → s.busAnswer 1 = .completes y → exec (.init cfg) s =
        .next ((s.sessionOpened cfg).afterExchange (encRead (s.params.addrPid.setWidth 8)) x y
          (.status (if (frame x).extractLsb' 13 8 = 0x52#8 then .success else .identificationMismatch)))) ∧
      (∀ l, s.busAnswer 0 = .fails l → exec (.init cfg) s =
        .next ((s.sessionOpened cfg).afterFirstFailure (encRead (s.params.addrPid.setWidth 8)) l)) ∧
      (∀ x l, s.busAnswer 0 = .completes x → s.busAnswer 1 = .fails l → exec (.init cfg) s =
        .next ((s.sessionOpened cfg).afterSecondFailure (encRead (s.params.addrPid.setWidth 8)) l)))

/-- R88, R142: the two response rows complete in every state, session or not, and change nothing but the host's
record of results. -/
def Obligations.ResponseRowsCompleteAnywhere : Prop :=
  ∀ (f : Frame) (s : State),
    exec (.rspReg f) s = .next { s with returned := s.returned ++ [.value16 (f.extractLsb' 5 16)] } ∧
    exec (.rspSensor f) s = .next { s with returned := s.returned ++ [.value32 f] }

/-! ### The session (10_state.md R15, 42_exchange_and_operations.md R99, R103, R106) -/

/-- R99: an operation on a session, and no other, is refused for want of one, exactly while the session is
closed. -/
def Obligations.NoSessionExactlyWhileClosed : Prop :=
  ∀ (i : Instr) (s : State),
    exec i s = .refused .noSession ↔
      s.session = .closed ∧ i.row ≠ .init ∧ i.row ≠ .rspReg ∧ i.row ≠ .rspSensor

/-- R106: a second INIT, and nothing else, is refused because a session is open. -/
def Obligations.SecondInitIsRefused : Prop :=
  ∀ (i : Instr) (s : State),
    exec i s = .refused .sessionAlreadyOpen ↔ (∃ cfg, s.session = .opened cfg) ∧ i.row = .init

/-- R15: once open, the session stays open under the same configuration until RESET, over every step. -/
def Obligations.OpenSessionStaysOpen : Prop :=
  ∀ (s t : State) (cfg : BusCfg), s.session = .opened cfg → s.Undisturbed → s.program.head? ≠ some .reset →
    step s = .next t → t.session = .opened cfg

/-- R103: the only operation that opens a session is INIT, and it opens it under its own operand. -/
def Obligations.OnlyInitOpensASession : Prop :=
  ∀ (i : Instr) (s t : State) (cfg : BusCfg), exec i s = .next t → s.session = .closed →
    t.session = .opened cfg → i = .init cfg

/-! ### Every operation -/

/-- R120: the only error of an operation other than INIT is BusTransferError. -/
def Obligations.ErrorsAreThoseOfTheTaxonomy : Prop :=
  ∀ (i : Instr) (s t : State) (c : Status), exec i s = .next t → t.returned = s.returned ++ [.status c] →
    i.row = .init ∨ (c = .busTransferError ∧ i.row ≠ .rspReg ∧ i.row ≠ .rspSensor)

/-- The model's choice (notes/assumptions/14.md): an operation that no RESET strikes adds exactly one entry to the
host's record of results. WRREG returns nothing to the host (R60, R95), and its entry says so: it is `nothing`. -/
def Obligations.EachOperationReturnsOneResult : Prop :=
  ∀ (i : Instr) (s t : State), s.Undisturbed → exec i s = .next t →
    ∃ r, t.returned = s.returned ++ [r]

/-- The bus log only grows, by at most two transactions, each of which sent the operation's own frame; WRREG adds one
and the response rows none (R35, R104). -/
def Obligations.TheLogGrowsByTheOperationsFrame : Prop :=
  ∀ (i : Instr) (s t : State), s.Undisturbed → exec i s = .next t →
    ∃ new : List Transaction, t.log = s.log ++ new ∧ new.length ≤ 2 ∧
      (∀ e ∈ new, e.sent = bytes (encode s.params i)) ∧
      (i.row = .wrreg → new.length = 1) ∧ (i.row = .rspReg ∨ i.row = .rspSensor → new = [])

/-- No operation writes a parameter or the list of what the host issues (R23). -/
def Obligations.ParametersAndProgramAreUntouched : Prop :=
  ∀ (i : Instr) (s t : State), exec i s = .next t → t.params = s.params ∧ t.program = s.program

/-- Results are never read back: an operation does the same whatever was returned before, after an
IdentificationMismatch as after Success (R13, R123). -/
def Obligations.ResultsAreNeverReadBack : Prop :=
  ∀ (i : Instr) (s t : State) (rs : List Result), exec i s = .next t →
    ∃ new, t.returned = s.returned ++ new ∧
      exec i { s with returned := rs } = .next { t with returned := rs ++ new }

/-- A transaction that never returns blocks the operation for ever (U10): an operation on a session, and an INIT that
has its handle and its open bus (R97). That blocking is the fault `busHangs` is notes/assumptions/11.md. -/
def Obligations.AHangingBusBlocksForEver : Prop :=
  ∀ (s : State) (cfg : BusCfg),
    (∀ i : Instr, i.wellFormed = true → s.session = .opened cfg →
      i.row ≠ .init → i.row ≠ .rspReg → i.row ≠ .rspSensor →
      (s.busAnswer 0 = .hangs → exec i s = .fault .busHangs) ∧
      (∀ x, s.busAnswer 0 = .completes x → s.busAnswer 1 = .hangs → i.row ≠ .wrreg →
        exec i s = .fault .busHangs)) ∧
    (s.session = .closed → s.handleAnswer = ⟨true, true⟩ →
      (s.busAnswer 0 = .hangs → exec (.init cfg) s = .fault .busHangs) ∧
      (∀ x, s.busAnswer 0 = .completes x → s.busAnswer 1 = .hangs →
        exec (.init cfg) s = .fault .busHangs))

/-! ### RESET (70_reset_and_hazards.md, 10_state.md R22) -/

/-- RESET between operations closes the session and leaves the phase idle, no transient value and an empty log
(R140). The model's choices: RESET is an item of what the host issues (notes/assumptions/12.md), and every other
field stays, the chip's pending reply and the host's record among them (notes/assumptions/13.md). -/
def Obligations.ResetEventClosesTheBlock : Prop :=
  ∀ (s : State) (rest : List Issued), s.program = .reset :: rest →
    step s = .next { s with
      program := rest, session := .closed, phase := .idle, cmd := none, rx1 := none, rsp := none, log := [] }

/-- RESET during a transaction abandons the operation: the block's state is that of R140, no result is returned and
no further transaction is issued (R141). An INIT struck in its identification read is abandoned with the session it
had opened, and has used up its free inputs (R97). The model's choices: RESET strikes as an answer to a transaction
(notes/assumptions/12.md), with any reply pending afterwards (notes/assumptions/10.md), and what lies outside the
block stays (notes/assumptions/13.md). -/
def Obligations.ResetAbandonsARunningOperation : Prop :=
  ∀ (s : State) (cfg : BusCfg) (l : Quad),
    (∀ i : Instr, i.wellFormed = true → s.session = .opened cfg →
      i.row ≠ .init → i.row ≠ .rspReg → i.row ≠ .rspSensor →
      (s.busAnswer 0 = .resets l → exec i s =
        .next { s.afterResetEvent with
          chipPending := l, answers := s.answers.drop 1, asked := s.asked + 1 }) ∧
      (∀ x, s.busAnswer 0 = .completes x → s.busAnswer 1 = .resets l → i.row ≠ .wrreg → exec i s =
        .next { s.afterResetEvent with
          chipPending := l, answers := s.answers.drop 2, asked := s.asked + 2 })) ∧
    (s.session = .closed → s.handleAnswer = ⟨true, true⟩ →
      (s.busAnswer 0 = .resets l → exec (.init cfg) s =
        .next { s.afterResetEvent with
          chipPending := l, answers := s.answers.drop 1, asked := s.asked + 1
          handles := s.handles.drop 1, inits := s.inits + 1 }) ∧
      (∀ x, s.busAnswer 0 = .completes x → s.busAnswer 1 = .resets l → exec (.init cfg) s =
        .next { s.afterResetEvent with
          chipPending := l, answers := s.answers.drop 2, asked := s.asked + 2
          handles := s.handles.drop 1, inits := s.inits + 1 }))

/-- R22: the values of the block's state after reset. -/
def Obligations.ResetStateIsTheSpecs : Prop :=
  State.reset.session = .closed ∧ State.reset.phase = .idle ∧ State.reset.cmd = none ∧
  State.reset.rx1 = none ∧ State.reset.rsp = none ∧ State.reset.log = []

/-! ### The step (10_state.md R12) -/

/-- A step runs the head of the list: an operation as it stands, or the one its frame's four bytes decode to; the
list moves on. The list is the model's bookkeeping (R12, notes/assumptions/1.md). That the host may name an operation
by four bytes, which the step decodes, is the model's choice (notes/assumptions/2.md): the classifier is no function
of the block (R56), and no operation sends a raw frame (R62). -/
def Obligations.AStepRunsTheDecodedOperation : Prop :=
  ∀ (s : State) (rest : List Issued),
    (∀ i, s.program = .operation i :: rest → step s = exec i { s with program := rest }) ∧
    (∀ q i, s.program = .frame q :: rest → decodeBytes s.params q = .ok i →
      step s = exec i { s with program := rest })

/-- With nothing issued the block waits (R22, notes/assumptions/1.md). Four bytes that are no frame of the block name
no operation: the model's choice (notes/assumptions/2.md), since the block has no input that selects them (R57). -/
def Obligations.AStepWaitsOrRefusesWhereNothingRuns : Prop :=
  ∀ s : State,
    (s.program = [] → step s = .next s) ∧
    (∀ q e rest, s.program = .frame q :: rest → decodeBytes s.params q = .error e →
      step s = .refused (.notAFrame q))

/-! ### The invariant -/

/-- Every step keeps the invariant: nothing of an operation is left, the bus log holds frames of the block only, every
result is one the spec allows, and no logged transaction is unaccounted for. -/
def Obligations.EveryStepKeepsTheInvariant : Prop :=
  ∀ s t : State, s.Inv → step s = .next t → t.Inv

/-- The state after reset meets the invariant. -/
def Obligations.ResetMeetsTheInvariant : Prop := State.reset.Inv

/-- Every four bytes in the bus log of a state that meets the invariant carry an odd number of set bits
(R66, R74). -/
def Obligations.LoggedFramesHaveOddWeight : Prop :=
  ∀ (s : State) (e : Transaction), s.Inv → e ∈ s.log → onesInFrame (frame e.sent) % 2 = 1
end

