-- ==== Sys2Proof/Laws/Codec.lean ====
section
/-! SUPPORT. The small facts about frames and the parity generator that proofs about the codec cite. -/

namespace Sys2Proof.Machine

/-- Each bit of a frame is a bit of one of its four bytes (00_scope.md R6). -/
theorem frame_getLsbD (q : Quad) (k : Nat) :
    (frame q).getLsbD k =
      if k < 8 then q.b3.getLsbD k
      else if k < 16 then q.b2.getLsbD (k - 8)
      else if k < 24 then q.b1.getLsbD (k - 16)
      else q.b0.getLsbD (k - 24) := by
  simp only [frame, BitVec.getLsbD_append]
  have h1 : k - 8 < 8 ↔ k < 16 := by omega
  have h2 : k - 16 < 8 ↔ k < 24 := by omega
  by_cases a : k < 8
  · simp [a]
  · simp [a, h1, h2, Nat.sub_sub]

/-- The parity generator leaves bits 31 down to 1 alone (40_encode.md R65). -/
theorem parity_getLsbD (f : Frame) {k : Nat} (hk : k ≠ 0) : (parity f).getLsbD k = f.getLsbD k := by
  simp [parity, BitVec.getLsbD_setWidth, BitVec.getLsbD_ofBool, hk]

/-- Bit 0 of the result is bit 0 of the input or the parity bit (40_encode.md R65). -/
theorem parity_bit_zero (f : Frame) : (parity f).getLsbD 0 = (f.getLsbD 0 || parityBit f) := by
  simp only [parity, BitVec.getLsbD_or, BitVec.getLsbD_setWidth, BitVec.getLsbD_ofBool]
  simp

/-- Within contract the address input has bit 7 clear (40_encode.md R72). -/
theorem contract_high_bit {a : Byte} (h : withinContract a = true) : a >>> 7 = 0#8 := by
  apply BitVec.eq_of_toNat_eq
  simp only [withinContract, decide_eq_true_eq] at h
  simp only [BitVec.toNat_ushiftRight, BitVec.toNat_ofNat, Nat.shiftRight_eq_div_pow]
  omega

/-- An address constant is within contract (00_scope.md R5). -/
theorem addrInput_within (a : BitVec 7) : withinContract (addrInput a) = true := by
  simp only [withinContract, addrInput, BitVec.toNat_setWidth, decide_eq_true_eq]
  have := a.isLt
  omega

end Sys2Proof.Machine
end

