-- ==== Sys2Proof/Laws/State.lean ====
section
/-! SUPPORT. What each update does to each field of State, one lemma per field per update, so that no later proof
unfolds an update. -/

namespace Sys2Proof.Machine

variable (s : State)

/-! ### answered -/

@[simp] theorem State.answered_params (n : Nat) : (s.answered n).params = s.params := rfl
@[simp] theorem State.answered_session (n : Nat) : (s.answered n).session = s.session := rfl
@[simp] theorem State.answered_phase (n : Nat) : (s.answered n).phase = s.phase := rfl
@[simp] theorem State.answered_cmd (n : Nat) : (s.answered n).cmd = s.cmd := rfl
@[simp] theorem State.answered_rx1 (n : Nat) : (s.answered n).rx1 = s.rx1 := rfl
@[simp] theorem State.answered_rsp (n : Nat) : (s.answered n).rsp = s.rsp := rfl
@[simp] theorem State.answered_chipPending (n : Nat) : (s.answered n).chipPending = s.chipPending := rfl
@[simp] theorem State.answered_log (n : Nat) : (s.answered n).log = s.log := rfl
@[simp] theorem State.answered_returned (n : Nat) : (s.answered n).returned = s.returned := rfl
@[simp] theorem State.answered_program (n : Nat) : (s.answered n).program = s.program := rfl
@[simp] theorem State.answered_answers (n : Nat) : (s.answered n).answers = s.answers.drop n := rfl
@[simp] theorem State.answered_asked (n : Nat) : (s.answered n).asked = s.asked + n := rfl
@[simp] theorem State.answered_handles (n : Nat) : (s.answered n).handles = s.handles := rfl
@[simp] theorem State.answered_inits (n : Nat) : (s.answered n).inits = s.inits := rfl

/-! ### handleAnswered -/

@[simp] theorem State.handleAnswered_params : s.handleAnswered.params = s.params := rfl
@[simp] theorem State.handleAnswered_session : s.handleAnswered.session = s.session := rfl
@[simp] theorem State.handleAnswered_phase : s.handleAnswered.phase = s.phase := rfl
@[simp] theorem State.handleAnswered_cmd : s.handleAnswered.cmd = s.cmd := rfl
@[simp] theorem State.handleAnswered_rx1 : s.handleAnswered.rx1 = s.rx1 := rfl
@[simp] theorem State.handleAnswered_rsp : s.handleAnswered.rsp = s.rsp := rfl
@[simp] theorem State.handleAnswered_chipPending : s.handleAnswered.chipPending = s.chipPending := rfl
@[simp] theorem State.handleAnswered_log : s.handleAnswered.log = s.log := rfl
@[simp] theorem State.handleAnswered_returned : s.handleAnswered.returned = s.returned := rfl
@[simp] theorem State.handleAnswered_program : s.handleAnswered.program = s.program := rfl
@[simp] theorem State.handleAnswered_answers : s.handleAnswered.answers = s.answers := rfl
@[simp] theorem State.handleAnswered_asked : s.handleAnswered.asked = s.asked := rfl
@[simp] theorem State.handleAnswered_handles : s.handleAnswered.handles = s.handles.drop 1 := rfl
@[simp] theorem State.handleAnswered_inits : s.handleAnswered.inits = s.inits + 1 := rfl

/-! ### withPending -/

@[simp] theorem State.withPending_params (q : Quad) : (s.withPending q).params = s.params := rfl
@[simp] theorem State.withPending_session (q : Quad) : (s.withPending q).session = s.session := rfl
@[simp] theorem State.withPending_phase (q : Quad) : (s.withPending q).phase = s.phase := rfl
@[simp] theorem State.withPending_cmd (q : Quad) : (s.withPending q).cmd = s.cmd := rfl
@[simp] theorem State.withPending_rx1 (q : Quad) : (s.withPending q).rx1 = s.rx1 := rfl
@[simp] theorem State.withPending_rsp (q : Quad) : (s.withPending q).rsp = s.rsp := rfl
@[simp] theorem State.withPending_chipPending (q : Quad) : (s.withPending q).chipPending = q := rfl
@[simp] theorem State.withPending_log (q : Quad) : (s.withPending q).log = s.log := rfl
@[simp] theorem State.withPending_returned (q : Quad) : (s.withPending q).returned = s.returned := rfl
@[simp] theorem State.withPending_program (q : Quad) : (s.withPending q).program = s.program := rfl
@[simp] theorem State.withPending_answers (q : Quad) : (s.withPending q).answers = s.answers := rfl
@[simp] theorem State.withPending_asked (q : Quad) : (s.withPending q).asked = s.asked := rfl
@[simp] theorem State.withPending_handles (q : Quad) : (s.withPending q).handles = s.handles := rfl
@[simp] theorem State.withPending_inits (q : Quad) : (s.withPending q).inits = s.inits := rfl

/-! ### logged -/

@[simp] theorem State.logged_params (t : Transaction) : (s.logged t).params = s.params := rfl
@[simp] theorem State.logged_session (t : Transaction) : (s.logged t).session = s.session := rfl
@[simp] theorem State.logged_phase (t : Transaction) : (s.logged t).phase = s.phase := rfl
@[simp] theorem State.logged_cmd (t : Transaction) : (s.logged t).cmd = s.cmd := rfl
@[simp] theorem State.logged_rx1 (t : Transaction) : (s.logged t).rx1 = s.rx1 := rfl
@[simp] theorem State.logged_rsp (t : Transaction) : (s.logged t).rsp = s.rsp := rfl
@[simp] theorem State.logged_chipPending (t : Transaction) : (s.logged t).chipPending = s.chipPending := rfl
@[simp] theorem State.logged_log (t : Transaction) : (s.logged t).log = s.log ++ [t] := rfl
@[simp] theorem State.logged_returned (t : Transaction) : (s.logged t).returned = s.returned := rfl
@[simp] theorem State.logged_program (t : Transaction) : (s.logged t).program = s.program := rfl
@[simp] theorem State.logged_answers (t : Transaction) : (s.logged t).answers = s.answers := rfl
@[simp] theorem State.logged_asked (t : Transaction) : (s.logged t).asked = s.asked := rfl
@[simp] theorem State.logged_handles (t : Transaction) : (s.logged t).handles = s.handles := rfl
@[simp] theorem State.logged_inits (t : Transaction) : (s.logged t).inits = s.inits := rfl

/-! ### starts -/

@[simp] theorem State.starts_params (f : Frame) : (s.starts f).params = s.params := rfl
@[simp] theorem State.starts_session (f : Frame) : (s.starts f).session = s.session := rfl
@[simp] theorem State.starts_phase (f : Frame) : (s.starts f).phase = .t1 := rfl
@[simp] theorem State.starts_cmd (f : Frame) : (s.starts f).cmd = some f := rfl
@[simp] theorem State.starts_rx1 (f : Frame) : (s.starts f).rx1 = s.rx1 := rfl
@[simp] theorem State.starts_rsp (f : Frame) : (s.starts f).rsp = s.rsp := rfl
@[simp] theorem State.starts_chipPending (f : Frame) : (s.starts f).chipPending = s.chipPending := rfl
@[simp] theorem State.starts_log (f : Frame) : (s.starts f).log = s.log := rfl
@[simp] theorem State.starts_returned (f : Frame) : (s.starts f).returned = s.returned := rfl
@[simp] theorem State.starts_program (f : Frame) : (s.starts f).program = s.program := rfl
@[simp] theorem State.starts_answers (f : Frame) : (s.starts f).answers = s.answers := rfl
@[simp] theorem State.starts_asked (f : Frame) : (s.starts f).asked = s.asked := rfl
@[simp] theorem State.starts_handles (f : Frame) : (s.starts f).handles = s.handles := rfl
@[simp] theorem State.starts_inits (f : Frame) : (s.starts f).inits = s.inits := rfl

/-! ### firstReply -/

@[simp] theorem State.firstReply_params (f : Frame) : (s.firstReply f).params = s.params := rfl
@[simp] theorem State.firstReply_session (f : Frame) : (s.firstReply f).session = s.session := rfl
@[simp] theorem State.firstReply_phase (f : Frame) : (s.firstReply f).phase = .t2 := rfl
@[simp] theorem State.firstReply_cmd (f : Frame) : (s.firstReply f).cmd = s.cmd := rfl
@[simp] theorem State.firstReply_rx1 (f : Frame) : (s.firstReply f).rx1 = some f := rfl
@[simp] theorem State.firstReply_rsp (f : Frame) : (s.firstReply f).rsp = s.rsp := rfl
@[simp] theorem State.firstReply_chipPending (f : Frame) : (s.firstReply f).chipPending = s.chipPending := rfl
@[simp] theorem State.firstReply_log (f : Frame) : (s.firstReply f).log = s.log := rfl
@[simp] theorem State.firstReply_returned (f : Frame) : (s.firstReply f).returned = s.returned := rfl
@[simp] theorem State.firstReply_program (f : Frame) : (s.firstReply f).program = s.program := rfl
@[simp] theorem State.firstReply_answers (f : Frame) : (s.firstReply f).answers = s.answers := rfl
@[simp] theorem State.firstReply_asked (f : Frame) : (s.firstReply f).asked = s.asked := rfl
@[simp] theorem State.firstReply_handles (f : Frame) : (s.firstReply f).handles = s.handles := rfl
@[simp] theorem State.firstReply_inits (f : Frame) : (s.firstReply f).inits = s.inits := rfl

/-! ### secondReply -/

@[simp] theorem State.secondReply_params (f : Frame) : (s.secondReply f).params = s.params := rfl
@[simp] theorem State.secondReply_session (f : Frame) : (s.secondReply f).session = s.session := rfl
@[simp] theorem State.secondReply_phase (f : Frame) : (s.secondReply f).phase = .done := rfl
@[simp] theorem State.secondReply_cmd (f : Frame) : (s.secondReply f).cmd = s.cmd := rfl
@[simp] theorem State.secondReply_rx1 (f : Frame) : (s.secondReply f).rx1 = s.rx1 := rfl
@[simp] theorem State.secondReply_rsp (f : Frame) : (s.secondReply f).rsp = some f := rfl
@[simp] theorem State.secondReply_chipPending (f : Frame) : (s.secondReply f).chipPending = s.chipPending := rfl
@[simp] theorem State.secondReply_log (f : Frame) : (s.secondReply f).log = s.log := rfl
@[simp] theorem State.secondReply_returned (f : Frame) : (s.secondReply f).returned = s.returned := rfl
@[simp] theorem State.secondReply_program (f : Frame) : (s.secondReply f).program = s.program := rfl
@[simp] theorem State.secondReply_answers (f : Frame) : (s.secondReply f).answers = s.answers := rfl
@[simp] theorem State.secondReply_asked (f : Frame) : (s.secondReply f).asked = s.asked := rfl
@[simp] theorem State.secondReply_handles (f : Frame) : (s.secondReply f).handles = s.handles := rfl
@[simp] theorem State.secondReply_inits (f : Frame) : (s.secondReply f).inits = s.inits := rfl

/-! ### opens -/

@[simp] theorem State.opens_params (c : BusCfg) : (s.opens c).params = s.params := rfl
@[simp] theorem State.opens_session (c : BusCfg) : (s.opens c).session = .opened c := rfl
@[simp] theorem State.opens_phase (c : BusCfg) : (s.opens c).phase = s.phase := rfl
@[simp] theorem State.opens_cmd (c : BusCfg) : (s.opens c).cmd = s.cmd := rfl
@[simp] theorem State.opens_rx1 (c : BusCfg) : (s.opens c).rx1 = s.rx1 := rfl
@[simp] theorem State.opens_rsp (c : BusCfg) : (s.opens c).rsp = s.rsp := rfl
@[simp] theorem State.opens_chipPending (c : BusCfg) : (s.opens c).chipPending = s.chipPending := rfl
@[simp] theorem State.opens_log (c : BusCfg) : (s.opens c).log = s.log := rfl
@[simp] theorem State.opens_returned (c : BusCfg) : (s.opens c).returned = s.returned := rfl
@[simp] theorem State.opens_program (c : BusCfg) : (s.opens c).program = s.program := rfl
@[simp] theorem State.opens_answers (c : BusCfg) : (s.opens c).answers = s.answers := rfl
@[simp] theorem State.opens_asked (c : BusCfg) : (s.opens c).asked = s.asked := rfl
@[simp] theorem State.opens_handles (c : BusCfg) : (s.opens c).handles = s.handles := rfl
@[simp] theorem State.opens_inits (c : BusCfg) : (s.opens c).inits = s.inits := rfl

/-! ### returns -/

@[simp] theorem State.returns_params (r : Result) : (s.returns r).params = s.params := rfl
@[simp] theorem State.returns_session (r : Result) : (s.returns r).session = s.session := rfl
@[simp] theorem State.returns_phase (r : Result) : (s.returns r).phase = s.phase := rfl
@[simp] theorem State.returns_cmd (r : Result) : (s.returns r).cmd = s.cmd := rfl
@[simp] theorem State.returns_rx1 (r : Result) : (s.returns r).rx1 = s.rx1 := rfl
@[simp] theorem State.returns_rsp (r : Result) : (s.returns r).rsp = s.rsp := rfl
@[simp] theorem State.returns_chipPending (r : Result) : (s.returns r).chipPending = s.chipPending := rfl
@[simp] theorem State.returns_log (r : Result) : (s.returns r).log = s.log := rfl
@[simp] theorem State.returns_returned (r : Result) : (s.returns r).returned = s.returned ++ [r] := rfl
@[simp] theorem State.returns_program (r : Result) : (s.returns r).program = s.program := rfl
@[simp] theorem State.returns_answers (r : Result) : (s.returns r).answers = s.answers := rfl
@[simp] theorem State.returns_asked (r : Result) : (s.returns r).asked = s.asked := rfl
@[simp] theorem State.returns_handles (r : Result) : (s.returns r).handles = s.handles := rfl
@[simp] theorem State.returns_inits (r : Result) : (s.returns r).inits = s.inits := rfl

/-! ### endsOperation -/

@[simp] theorem State.endsOperation_params : s.endsOperation.params = s.params := rfl
@[simp] theorem State.endsOperation_session : s.endsOperation.session = s.session := rfl
@[simp] theorem State.endsOperation_phase : s.endsOperation.phase = .idle := rfl
@[simp] theorem State.endsOperation_cmd : s.endsOperation.cmd = none := rfl
@[simp] theorem State.endsOperation_rx1 : s.endsOperation.rx1 = none := rfl
@[simp] theorem State.endsOperation_rsp : s.endsOperation.rsp = none := rfl
@[simp] theorem State.endsOperation_chipPending : s.endsOperation.chipPending = s.chipPending := rfl
@[simp] theorem State.endsOperation_log : s.endsOperation.log = s.log := rfl
@[simp] theorem State.endsOperation_returned : s.endsOperation.returned = s.returned := rfl
@[simp] theorem State.endsOperation_program : s.endsOperation.program = s.program := rfl
@[simp] theorem State.endsOperation_answers : s.endsOperation.answers = s.answers := rfl
@[simp] theorem State.endsOperation_asked : s.endsOperation.asked = s.asked := rfl
@[simp] theorem State.endsOperation_handles : s.endsOperation.handles = s.handles := rfl
@[simp] theorem State.endsOperation_inits : s.endsOperation.inits = s.inits := rfl

/-! ### afterReset -/

@[simp] theorem State.afterReset_params : s.afterReset.params = s.params := rfl
@[simp] theorem State.afterReset_session : s.afterReset.session = .closed := rfl
@[simp] theorem State.afterReset_phase : s.afterReset.phase = .idle := rfl
@[simp] theorem State.afterReset_cmd : s.afterReset.cmd = none := rfl
@[simp] theorem State.afterReset_rx1 : s.afterReset.rx1 = none := rfl
@[simp] theorem State.afterReset_rsp : s.afterReset.rsp = none := rfl
@[simp] theorem State.afterReset_chipPending : s.afterReset.chipPending = s.chipPending := rfl
@[simp] theorem State.afterReset_log : s.afterReset.log = [] := rfl
@[simp] theorem State.afterReset_returned : s.afterReset.returned = s.returned := rfl
@[simp] theorem State.afterReset_program : s.afterReset.program = s.program := rfl
@[simp] theorem State.afterReset_answers : s.afterReset.answers = s.answers := rfl
@[simp] theorem State.afterReset_asked : s.afterReset.asked = s.asked := rfl
@[simp] theorem State.afterReset_handles : s.afterReset.handles = s.handles := rfl
@[simp] theorem State.afterReset_inits : s.afterReset.inits = s.inits := rfl

end Sys2Proof.Machine
end

