-- ==== Sys2Proof/Laws/Ops.lean ====
section
/-! SUPPORT. What each shared operation can do, said once. -/

namespace Sys2Proof.Machine

/-! ### The answers to come -/

/-- Once `n` transactions are answered, the `k`-th answer to come is the one that was `n + k` away. -/
@[simp] theorem State.busAnswer_answered (s : State) (n k : Nat) :
    (s.answered n).busAnswer k = s.busAnswer (n + k) := by
  simp [State.busAnswer, State.answered, List.getElem?_drop, Nat.add_assoc]

/-- The answers to come depend on the list of answers and the counter alone. -/
theorem State.busAnswer_congr {s t : State} (ha : t.answers = s.answers) (hn : t.asked = s.asked) (k : Nat) :
    t.busAnswer k = s.busAnswer k := by
  simp [State.busAnswer, ha, hn]

@[simp] theorem State.busAnswer_withPending (s : State) (q : Quad) (k : Nat) :
    (s.withPending q).busAnswer k = s.busAnswer k := rfl
@[simp] theorem State.busAnswer_logged (s : State) (e : Transaction) (k : Nat) :
    (s.logged e).busAnswer k = s.busAnswer k := rfl
@[simp] theorem State.busAnswer_starts (s : State) (f : Frame) (k : Nat) :
    (s.starts f).busAnswer k = s.busAnswer k := rfl
@[simp] theorem State.busAnswer_firstReply (s : State) (f : Frame) (k : Nat) :
    (s.firstReply f).busAnswer k = s.busAnswer k := rfl
@[simp] theorem State.busAnswer_opens (s : State) (c : BusCfg) (k : Nat) :
    (s.opens c).busAnswer k = s.busAnswer k := rfl
@[simp] theorem State.busAnswer_handleAnswered (s : State) (k : Nat) :
    s.handleAnswered.busAnswer k = s.busAnswer k := rfl

/-! ### One transaction -/

/-- All that `busXfer` can do. -/
theorem busXfer_cases (tx : Quad) (s : State) :
    (∃ y, s.busAnswer 0 = .completes y ∧ busXfer tx s =
      .ok s.chipPending (((s.answered 1).logged ⟨tx, some s.chipPending⟩).withPending y)) ∨
    (∃ l, s.busAnswer 0 = .fails l ∧ busXfer tx s =
      .failed (((s.answered 1).logged ⟨tx, none⟩).withPending l)) ∨
    (s.busAnswer 0 = .hangs ∧ busXfer tx s = .hung) ∨
    (∃ l, s.busAnswer 0 = .resets l ∧ busXfer tx s =
      .abandoned ((s.answered 1).withPending l).afterReset) := by
  cases h : s.busAnswer 0 <;> simp [busXfer, h]

/-! ### The exchange -/

/-- What an exchange leaves when both transactions complete, before the operation ends. -/
def State.exchanged (s : State) (f : Frame) (x y : Quad) : State :=
  { s with
    phase := .done, cmd := some f, rx1 := some (frame s.chipPending), rsp := some (frame x)
    chipPending := y
    log := s.log ++ [⟨bytes f, some s.chipPending⟩, ⟨bytes f, some x⟩]
    answers := s.answers.drop 2, asked := s.asked + 2 }

/-- What an exchange leaves when its second transaction fails, before the operation ends. -/
def State.secondFailed (s : State) (f : Frame) (l : Quad) : State :=
  { s with
    phase := .t2, cmd := some f, rx1 := some (frame s.chipPending)
    chipPending := l
    log := s.log ++ [⟨bytes f, some s.chipPending⟩, ⟨bytes f, none⟩]
    answers := s.answers.drop 2, asked := s.asked + 2 }

/-- What a transaction leaves when it is the operation's first and fails, before the operation ends. -/
def State.firstFailed (s : State) (f : Frame) (l : Quad) : State :=
  { s with
    phase := .t1, cmd := some f
    chipPending := l
    log := s.log ++ [⟨bytes f, none⟩]
    answers := s.answers.drop 1, asked := s.asked + 1 }

/-- What RESET leaves when it strikes the `n`-th transaction of an operation. -/
def State.struck (s : State) (n : Nat) (l : Quad) : State :=
  { s with
    session := .closed, phase := .idle, cmd := none, rx1 := none, rsp := none
    chipPending := l
    log := []
    answers := s.answers.drop n, asked := s.asked + n }

/-- All that `exchange` can do. -/
theorem exchange_cases (f : Frame) (s : State) :
    (∃ x y, s.busAnswer 0 = .completes x ∧ s.busAnswer 1 = .completes y ∧
      exchange f s = .ok (frame x) (s.exchanged f x y)) ∨
    (∃ l, s.busAnswer 0 = .fails l ∧ exchange f s = .failed (s.firstFailed f l)) ∨
    (∃ x l, s.busAnswer 0 = .completes x ∧ s.busAnswer 1 = .fails l ∧
      exchange f s = .failed (s.secondFailed f l)) ∨
    ((s.busAnswer 0 = .hangs ∨ ∃ x, s.busAnswer 0 = .completes x ∧ s.busAnswer 1 = .hangs) ∧
      exchange f s = .hung) ∨
    (∃ l, s.busAnswer 0 = .resets l ∧ exchange f s = .abandoned (s.struck 1 l)) ∨
    (∃ x l, s.busAnswer 0 = .completes x ∧ s.busAnswer 1 = .resets l ∧
      exchange f s = .abandoned (s.struck 2 l)) := by
  cases h0 : s.busAnswer 0 with
  | completes x =>
    cases h1 : s.busAnswer 1 <;>
      (simp only [exchange, busXfer, Bus.andThen, State.busAnswer_starts, State.busAnswer_firstReply,
        State.busAnswer_withPending, State.busAnswer_logged, State.busAnswer_answered, h0, h1]
       simp [State.exchanged, State.secondFailed, State.struck, State.answered, State.logged,
        State.withPending, State.starts, State.firstReply, State.secondReply, State.afterReset])
  | fails l =>
    simp only [exchange, busXfer, Bus.andThen, State.busAnswer_starts, h0]
    simp [State.firstFailed, State.answered, State.logged, State.withPending, State.starts]
  | hangs => simp [exchange, busXfer, Bus.andThen, h0]
  | resets l =>
    simp only [exchange, busXfer, Bus.andThen, State.busAnswer_starts, h0]
    simp [State.struck, State.answered, State.withPending, State.starts, State.afterReset]

/-- `readRegister` decodes what the exchange of ENC_READ returns and does nothing else. -/
theorem readRegister_eq (a : Byte) (s : State) :
    readRegister a s = (exchange (encRead a) s).andThen fun rsp t => .ok (decReg rsp) t := rfl

/-! ### How an operation ends -/

/-- The state an operation that completes with `r` leaves. -/
theorem finish_eq (r : Result) (s : State) : finish r s = .next (s.endsOperation.returns r) := rfl

/-- An error ends the operation as its result. -/
theorem raise_eq (c : Status) (s : State) : raise c s = .next (s.endsOperation.returns (.status c)) := rfl

/-- All that the end of a bus sequence can do, given that it answers a next state. -/
theorem Bus.conclude_next {α : Type} {b : Bus α} {k : α → State → Host.Outcome State Fault Refusal} {t : State}
    (h : b.conclude k = .next t) :
    (∃ a u, b = .ok a u ∧ k a u = .next t) ∨
    (∃ u, b = .failed u ∧ t = u.endsOperation.returns (.status .busTransferError)) ∨
    b = .abandoned t := by
  cases b with
  | ok a u => exact .inl ⟨a, u, rfl, h⟩
  | failed u => exact .inr (.inl ⟨u, rfl, by simpa [Bus.conclude, raise, finish] using h.symm⟩)
  | hung => simp [Bus.conclude] at h
  | abandoned u => simpa [Bus.conclude] using h

/-! ### The checks -/

/-- An operation behind the session check goes on exactly when a session is open. -/
theorem needSession_next {s t : State} {k : Host.Outcome State Fault Refusal} (h : needSession s k = .next t) :
    (∃ cfg, s.session = .opened cfg) ∧ k = .next t := by
  cases hs : s.session <;> simp_all [needSession]

/-- The command of an operation that goes on: its port gave a frame. -/
theorem withCommand_next {op : EncOp} {a : Byte} {v : RegValue} {s t : State}
    {k : Frame → Host.Outcome State Fault Refusal} (h : withCommand op a v s k = .next t) :
    ∃ f, encoderPort s.params op a v = .ok f ∧ k f = .next t := by
  cases hp : encoderPort s.params op a v <;> simp_all [withCommand]

/-! ### Taking the next operation -/

/-- All that `fetch` can answer. -/
theorem State.fetch_cases (s : State) :
    (s.program = [] ∧ s.fetch = .waits) ∨
    (∃ i rest, s.program = .operation i :: rest ∧ s.fetch = .run i { s with program := rest }) ∨
    (∃ q i rest, s.program = .frame q :: rest ∧ decodeBytes s.params q = .ok i ∧
      s.fetch = .run i { s with program := rest }) ∨
    (∃ q rest, s.program = .frame q :: rest ∧ s.fetch = .notAFrame q) ∨
    (∃ rest, s.program = .reset :: rest ∧ s.fetch = .reset { s with program := rest }) := by
  match h : s.program with
  | [] => simp [State.fetch, h]
  | .operation i :: rest => simp [State.fetch, h]
  | .frame q :: rest => cases hd : decodeBytes s.params q <;> simp [State.fetch, h, hd]
  | .reset :: rest => simp [State.fetch, h]

end Sys2Proof.Machine
end

