-- ==== Sys2Proof/Laws/Exec.lean ====
section
/-! SUPPORT. Said once: everything an operation can do when it answers a next state. -/

namespace Sys2Proof.Machine

/-- The state an operation runs its bus sequence in: INIT has answered its free inputs and opened the session
(R97 step 2); any other operation starts from the state as it is. -/
def State.base (s : State) : Instr → State
  | .init cfg => s.handleAnswered.opens cfg
  | _ => s

/-- What an operation makes of its response frame, where it makes a result of it (R85). -/
def replyResult (p : Params) : Instr → Frame → Option Result
  | .rdreg _, f => some (.value16 (decReg f))
  | .wrreg _ _, _ => none
  | .rdsens, f => some (.value32 (decSensor f))
  | .init _, f => some (.status (if identified (decReg f) then .success else .identificationMismatch))
  | .rdrate, f => some (.rate (rate (decReg f)))
  | .rdtemp, f => (temp p.tempBelowBias (decReg f)).map .temperature
  | .rspReg _, _ => none
  | .rspSensor _, _ => none

/-- How an operation that put frame `f` on the bus from state `u` can end in a next state: completed with the result
`res` makes of the second reply, failed, or struck by RESET; `two` says whether it sends the frame twice. -/
def EndsFrom (u : State) (f : Frame) (two : Prop) (res : Frame → Option Result) (t : State) : Prop :=
  (∃ x y r, two ∧ u.busAnswer 0 = .completes x ∧ u.busAnswer 1 = .completes y ∧ res (frame x) = some r ∧
    t = (u.exchanged f x y).endsOperation.returns r) ∨
  (∃ y, ¬ two ∧ u.busAnswer 0 = .completes y ∧
    t = ((((u.starts f).answered 1).logged ⟨bytes f, some u.chipPending⟩).withPending y).endsOperation.returns
      .nothing) ∨
  (∃ l, u.busAnswer 0 = .fails l ∧
    t = (u.firstFailed f l).endsOperation.returns (.status .busTransferError)) ∨
  (∃ x l, two ∧ u.busAnswer 0 = .completes x ∧ u.busAnswer 1 = .fails l ∧
    t = (u.secondFailed f l).endsOperation.returns (.status .busTransferError)) ∨
  (∃ l, u.busAnswer 0 = .resets l ∧ t = u.struck 1 l) ∨
  (∃ x l, two ∧ u.busAnswer 0 = .completes x ∧ u.busAnswer 1 = .resets l ∧ t = u.struck 2 l)

/-- The end of an operation built on one exchange. -/
theorem exchange_conclude_next {u t : State} {f : Frame} {k : Frame → State → Host.Outcome State Fault Refusal}
    {res : Frame → Option Result} (h : (exchange f u).conclude k = .next t)
    (hk : ∀ g w, k g w = .next t → ∃ r, res g = some r ∧ t = w.endsOperation.returns r) :
    EndsFrom u f True res t := by
  rcases exchange_cases f u with ⟨x, y, h0, h1, e⟩ | ⟨l, h0, e⟩ | ⟨x, l, h0, h1, e⟩ | ⟨_, e⟩ | ⟨l, h0, e⟩ |
    ⟨x, l, h0, h1, e⟩ <;> rw [e] at h
  · obtain ⟨r, hr, ht⟩ := hk _ _ h
    exact .inl ⟨x, y, r, trivial, h0, h1, hr, ht⟩
  · injection h with h
    exact .inr (.inr (.inl ⟨l, h0, h.symm⟩))
  · injection h with h
    exact .inr (.inr (.inr (.inl ⟨x, l, trivial, h0, h1, h.symm⟩)))
  · cases h
  · injection h with h
    exact .inr (.inr (.inr (.inr (.inl ⟨l, h0, h.symm⟩))))
  · injection h with h
    exact .inr (.inr (.inr (.inr (.inr ⟨x, l, trivial, h0, h1, h.symm⟩))))

/-- The end of an operation built on one register read. -/
theorem readRegister_conclude_next {u t : State} {a : Byte}
    {k : RegValue → State → Host.Outcome State Fault Refusal} {res : Frame → Option Result}
    (h : (readRegister a u).conclude k = .next t)
    (hk : ∀ g w, k (decReg g) w = .next t → ∃ r, res g = some r ∧ t = w.endsOperation.returns r) :
    EndsFrom u (encRead a) True res t := by
  have h' : (exchange (encRead a) u).conclude (fun rsp w => k (decReg rsp) w) = .next t := by
    rw [← h, readRegister_eq]
    cases exchange (encRead a) u <;> rfl
  exact exchange_conclude_next h' hk

/-- The end of RDTEMP, given that it was not refused. -/
theorem temperature_next {m : TempBelowBias} {raw : RegValue} {w t : State}
    (h : (match temp m raw with | some q => finish (.temperature q) w | none => .refused .tempBelowBias) = .next t) :
    ∃ r, (temp m raw).map Result.temperature = some r ∧ t = w.endsOperation.returns r := by
  cases ht : temp m raw with
  | none => rw [ht] at h; cases h
  | some q => rw [ht] at h; injection h with h; exact ⟨_, rfl, h.symm⟩

/-- Everything an operation can do when it answers a next state: a response row returns a value, an INIT fails
before the bus, or the operation runs its bus sequence with its own frame, on a session that was open (or, for INIT,
closed). -/
theorem exec_next_cases {i : Instr} {s t : State} (h : exec i s = .next t) :
    (∃ f, (i = .rspReg f ∧ t = s.returns (.value16 (decReg f))) ∨
      (i = .rspSensor f ∧ t = s.returns (.value32 (decSensor f)))) ∨
    (∃ c, i.row = .init ∧ s.session = .closed ∧ (c = .allocationFailure ∨ c = .busInitError) ∧
      t = s.handleAnswered.endsOperation.returns (.status c)) ∨
    (i.row ≠ .rspReg ∧ i.row ≠ .rspSensor ∧ (i.row = .init ↔ s.session = .closed) ∧ i.wellFormed = true ∧
      EndsFrom (s.base i) (encode s.params i) (i.row ≠ .wrreg) (replyResult s.params i) t) := by
  cases i with
  | rspReg f =>
    injection h with h
    exact .inl ⟨f, .inl ⟨rfl, h.symm⟩⟩
  | rspSensor f =>
    injection h with h
    exact .inl ⟨f, .inr ⟨rfl, h.symm⟩⟩
  | rdreg a =>
    obtain ⟨⟨cfg, hs⟩, h⟩ := needSession_next h
    obtain ⟨f, hf, h⟩ := withCommand_next h
    by_cases hw : withinContract a = true
    · rw [encoderPort, if_pos hw] at hf
      injection hf with hf
      subst hf
      refine .inr (.inr ⟨by simp [Instr.row], by simp [Instr.row], by simp [Instr.row, hs], hw, ?_⟩)
      simpa [Instr.row, State.base, encode] using exchange_conclude_next (u := s) h fun g w hx => by
        injection hx with hx
        exact ⟨_, rfl, hx.symm⟩
    · rw [encoderPort, if_neg hw] at hf
      cases hf
  | wrreg a v =>
    obtain ⟨⟨cfg, hs⟩, h⟩ := needSession_next h
    obtain ⟨f, hf, h⟩ := withCommand_next h
    by_cases hw : withinContract a = true
    · rw [encoderPort, if_pos hw] at hf
      injection hf with hf
      subst hf
      refine .inr (.inr ⟨by simp [Instr.row], by simp [Instr.row], by simp [Instr.row, hs], hw, ?_⟩)
      rcases busXfer_cases (bytes (encWrite a v)) (s.starts (encWrite a v)) with
        ⟨y, h0, e⟩ | ⟨l, h0, e⟩ | ⟨_, e⟩ | ⟨l, h0, e⟩ <;> rw [e] at h
      · injection h with h
        exact .inr (.inl ⟨y, by simp [Instr.row], h0, h.symm⟩)
      · injection h with h
        exact .inr (.inr (.inl ⟨l, h0, h.symm⟩))
      · cases h
      · injection h with h
        exact .inr (.inr (.inr (.inr (.inl ⟨l, h0, h.symm⟩))))
    · rw [encoderPort, if_neg hw] at hf
      cases hf
  | rdsens =>
    obtain ⟨⟨cfg, hs⟩, h⟩ := needSession_next h
    obtain ⟨f, hf, h⟩ := withCommand_next h
    injection hf with hf
    subst hf
    refine .inr (.inr ⟨by simp [Instr.row], by simp [Instr.row], by simp [Instr.row, hs], rfl, ?_⟩)
    simpa [Instr.row, State.base, encode] using exchange_conclude_next (u := s) h fun g w hx => by
      injection hx with hx
      exact ⟨_, rfl, hx.symm⟩
  | rdrate =>
    obtain ⟨⟨cfg, hs⟩, h⟩ := needSession_next h
    refine .inr (.inr ⟨by simp [Instr.row], by simp [Instr.row], by simp [Instr.row, hs], rfl, ?_⟩)
    simpa [Instr.row, State.base, encode] using readRegister_conclude_next (u := s) h fun g w hx => by
      injection hx with hx
      exact ⟨_, rfl, hx.symm⟩
  | rdtemp =>
    obtain ⟨⟨cfg, hs⟩, h⟩ := needSession_next h
    refine .inr (.inr ⟨by simp [Instr.row], by simp [Instr.row], by simp [Instr.row, hs], rfl, ?_⟩)
    simpa [Instr.row, State.base, encode] using
      readRegister_conclude_next (u := s) (res := replyResult s.params .rdtemp) h fun g w hx => temperature_next hx
  | init cfg =>
    cases hs : s.session with
    | opened c => simp [exec, execInit, hs] at h
    | closed =>
      simp only [exec, execInit, hs] at h
      split at h
      · injection h with h
        exact .inr (.inl ⟨_, rfl, rfl, .inl rfl, h.symm⟩)
      · split at h
        · injection h with h
          exact .inr (.inl ⟨_, rfl, rfl, .inr rfl, h.symm⟩)
        · refine .inr (.inr ⟨by simp [Instr.row], by simp [Instr.row], by simp [Instr.row], rfl, ?_⟩)
          simpa [Instr.row, State.base, encode] using readRegister_conclude_next h fun g w hx => by
            by_cases hv : identified (decReg g) = true
            · rw [if_pos hv] at hx
              injection hx with hx
              exact ⟨_, by rw [replyResult, if_pos hv], hx.symm⟩
            · rw [if_neg hv] at hx
              injection hx with hx
              exact ⟨_, by rw [replyResult, if_neg hv], hx.symm⟩

end Sys2Proof.Machine
end

