-- ==== Sys2Proof/Laws/PerInstr.lean ====
section
/-! SUPPORT. One family of statements about every operation as syntax: its frame has the fixed bits of its row of
spec/opcode_table.json (30_encoding.md R56). -/

namespace Sys2Proof.Laws.EncodedShape

open Sys2Proof.Machine

/-- The mask of a row: the bits its match fixes for every parameter and operand (R56). The pseudo-operations have
RDREG's (R61), the responses none (R54, R55). -/
def rowMask : Row → Frame
  | .rdreg => 0xFF01FFFE#32
  | .wrreg => 0xFF000000#32
  | .rdsens => 0xFFFFFFFE#32
  | .init => 0xFF01FFFE#32
  | .rdrate => 0xFF01FFFE#32
  | .rdtemp => 0xFF01FFFE#32
  | .rspReg => 0#32
  | .rspSensor => 0#32

/-- The match value of a row (R56). -/
def rowMatch (p : Params) : Row → Frame
  | .rdreg => 0x80000000#32
  | .wrreg => 0x40000000#32
  | .rdsens => (sdByte0 p).setWidth 32 <<< 24
  | .init => 0x80000000#32
  | .rdrate => 0x80000000#32
  | .rdtemp => 0x80000000#32
  | .rspReg => 0#32
  | .rspSensor => 0#32

/-- An operation within contract has a frame that matches its row. -/
def Statement (i : Instr) : Prop :=
  i.wellFormed = true → ∀ p : Params, encode p i &&& rowMask i.row = rowMatch p i.row

/-- A mask without bit 0 does not see the parity bit. -/
theorem parity_and (f m : Frame) (hm : m.getLsbD 0 = false) : parity f &&& m = f &&& m := by
  apply BitVec.eq_of_getLsbD_eq
  intro k _
  rcases Nat.eq_zero_or_pos k with rfl | hk0
  · simp only [BitVec.getLsbD_and, hm, Bool.and_false]
  · simp only [BitVec.getLsbD_and, parity_getLsbD f (Nat.pos_iff_ne_zero.mp hk0)]

/-- The fixed bits of a read frame. -/
theorem encRead_shape {a : Byte} (h : withinContract a = true) :
    encRead a &&& 0xFF01FFFE#32 = 0x80000000#32 := by
  rw [encRead, parity_and _ _ (by decide), contract_high_bit h]
  apply BitVec.eq_of_getLsbD_eq
  intro k hk
  rw [BitVec.getLsbD_and, frame_getLsbD]
  interval_cases k <;> simp [opcRead]

theorem rdreg (a : Byte) : Statement (.rdreg a) := fun h _ => encRead_shape h

theorem wrreg (a : Byte) (v : RegValue) : Statement (.wrreg a v) := by
  intro h p
  show encWrite a v &&& 0xFF000000#32 = 0x40000000#32
  rw [encWrite, parity_and _ _ (by decide), contract_high_bit h]
  apply BitVec.eq_of_getLsbD_eq
  intro k hk
  rw [BitVec.getLsbD_and, frame_getLsbD]
  interval_cases k <;> simp [opcWrite]

theorem rdsens : Statement .rdsens := by
  intro _ p
  show encSensor p &&& 0xFFFFFFFE#32 = (sdByte0 p).setWidth 32 <<< 24
  rw [encSensor, parity_and _ _ (by decide)]
  apply BitVec.eq_of_getLsbD_eq
  intro k hk
  rw [BitVec.getLsbD_and, frame_getLsbD]
  interval_cases k <;> simp [sdByte0]

theorem init (cfg : BusCfg) : Statement (.init cfg) := fun _ _ => encRead_shape (addrInput_within _)

theorem rdrate : Statement .rdrate := fun _ _ => encRead_shape (addrInput_within _)

theorem rdtemp : Statement .rdtemp := fun _ _ => encRead_shape (addrInput_within _)

theorem rspReg (f : Frame) : Statement (.rspReg f) := fun _ _ => BitVec.and_zero

theorem rspSensor (f : Frame) : Statement (.rspSensor f) := fun _ _ => BitVec.and_zero

end Sys2Proof.Laws.EncodedShape
end

