-- ==== Sys2Proof/Tests/Slice0.lean ====
section
/-! SUPPORT. The model's own tests: the well-formedness smoke test, decoding of words written out from the spec's
encodings, one-step vectors from 95_test_vectors.md (each named by its section), and, for every statement with
hypotheses, a concrete state and operands that meet them. -/

namespace Sys2Proof.Tests

open Sys2Proof.Machine

/-! ### Helpers -/

def cfg0 : BusCfg := ⟨1, 1000000, 0, 2⟩

/-- Four bytes of a reply nobody reads. -/
def junk : Quad := ⟨0xDE#8, 0xAD#8, 0xBE#8, 0xEF#8⟩

/-- A state with an open session and the bus transactions to come. -/
def ready (as : List BusAnswer) : State := { State.reset with session := .opened cfg0, answers := as }

/-- The state after reset with INIT's free inputs and the bus transactions to come. -/
def fresh (h : HandleAnswer) (as : List BusAnswer) : State := { State.reset with handles := [h], answers := as }

/-- Two transactions that complete, the second receiving `x`. -/
def replies (x : Quad) : List BusAnswer := [.completes x, .completes junk]

def nextOf (o : Host.Outcome State Fault Refusal) : Option State :=
  match o with
  | .next s => some s
  | .fault _ => none
  | .refused _ => none

def refusalOf (o : Host.Outcome State Fault Refusal) : Option Refusal :=
  match o with
  | .next _ => none
  | .fault _ => none
  | .refused r => some r

/-- The results of an operation that completes. -/
def returnsOf (o : Host.Outcome State Fault Refusal) : Option (List Result) := (nextOf o).map (·.returned)

/-- The frames an operation that completes put on the bus. -/
def framesOf (o : Host.Outcome State Fault Refusal) : Option (List Frame) :=
  (nextOf o).map fun s => s.log.map fun e => frame e.sent

/-! ### Well-formedness: each check refuses an ill-formed operation -/

theorem test_wf_rdreg_refuses_0x80 : (Instr.rdreg 0x80#8).wellFormed = false := by decide
theorem test_wf_wrreg_refuses_0xFF : (Instr.wrreg 0xFF#8 0x0000#16).wellFormed = false := by decide
theorem test_wf_rdreg_takes_0x7F : (Instr.rdreg 0x7F#8).wellFormed = true := by decide

/-! ### Decoding: words written out bit by bit from R47, R48, R49 and the table's patterns -/

/-- R47: 1000 0000, address 1010101, 16 zeros, P = 0 (five ones above bit 0). -/
theorem test_decode_rdreg :
    decodeWord defaultParams 0b10000000101010100000000000000000#32 = .ok (.rdreg 0x55#8) := by decide

/-- R48: 0100 0000, address 0001100, value 0101001000110100, P = 0. -/
theorem test_decode_wrreg :
    decodeWord defaultParams 0b01000000000110001010010001101000#32 = .ok (.wrreg 0x0C#8 0x5234#16) := by decide

/-- R49 at the default SD_BYTE0: 0010 0000, 23 zeros, P = 0. -/
theorem test_decode_rdsens :
    decodeWord defaultParams 0b00100000000000000000000000000000#32 = .ok .rdsens := by decide

/-- The table's pattern of INIT, read under its own row. -/
theorem test_decode_init :
    decodeAs defaultParams .init cfg0 0b10000000000110000000000000000000#32 = .ok (.init cfg0) := by decide

/-- The table's pattern of RDRATE, read under its own row. -/
theorem test_decode_rdrate :
    decodeAs defaultParams .rdrate cfg0 0b10000000000000000000000000000000#32 = .ok .rdrate := by decide

/-- The table's pattern of RDTEMP, read under its own row. -/
theorem test_decode_rdtemp :
    decodeAs defaultParams .rdtemp cfg0 0b10000000000001000000000000000001#32 = .ok .rdtemp := by decide

/-- R54: every word is accepted as a register response. -/
theorem test_decode_rspReg :
    decodeAs defaultParams .rspReg cfg0 0b00000000000010100100011010000000#32 = .ok (.rspReg 0x000A4680#32) := by
  decide

/-- R55: every word is accepted as a sensor-data response. -/
theorem test_decode_rspSensor :
    decodeAs defaultParams .rspSensor cfg0 0b00010010001101000101011001111000#32
      = .ok (.rspSensor 0x12345678#32) := by decide

/-- R57: a read-shaped word with a reserved bit set, and one with the wrong parity bit. -/
theorem test_decode_rejects_reserved :
    decodeWord defaultParams 0x80180002#32 = .error .notAFrame := by decide
theorem test_decode_rejects_parity :
    decodeWord defaultParams 0x80180001#32 = .error .badParity := by decide

/-- Rows that share RDREG's words are told apart by their address (R61). -/
theorem test_decode_pseudo_rejects_other_address :
    decodeAs defaultParams .rdtemp cfg0 0x80180000#32 = .error .otherOperation := by decide

/-- The word the table gives RDREG, placed and fetched. -/
theorem test_fetch_runs_the_word :
    returnsOf (step ((ready (replies ⟨0xFF#8, 0xF5#8, 0x55#8, 0x5F#8⟩)).withFetchWord 32 0x80AA0000))
      = some [.value16 0xAAAA#16] := by decide

/-! ### The codec: V-PARITY, V-READ, V-WRITE, V-SENSOR, V-DECREG -/

theorem test_parity_of_zero : parity 0x00000000#32 = 0x00000001#32 := by decide
theorem test_parity_never_clears : parity 0x80180001#32 = 0x80180001#32 := by decide
theorem test_encRead_0x7F : encRead 0x7F#8 = 0x80FE0001#32 := by decide
theorem test_encWrite_top_bit : encWrite 0x00#8 0x8000#16 = 0x40010001#32 := by decide
theorem test_encWrite_0x2A : encWrite 0x2A#8 0x5555#16 = 0x4054AAAB#32 := by decide
theorem test_encSensor_0x30 : encSensor { defaultParams with sdLow := 0x30#6 } = 0x30000001#32 := by decide
theorem test_decReg_worked : decReg 0x12345678#32 = 0xA2B3#16 := by decide
theorem test_decReg_filler : decReg 0xFFE0001F#32 = 0x0000#16 := by decide

/-! ### One step per operation: V-EXCHANGE, V-ERR, V-RATE, V-TEMP, P3 -/

theorem test_rdreg_value :
    returnsOf (exec (.rdreg 0x0C#8) (ready (replies ⟨0x00#8, 0x0A#8, 0x46#8, 0x80#8⟩)))
      = some [.value16 0x5234#16] := by decide

theorem test_rdreg_second_failure_logged :
    (nextOf (exec (.rdreg 0x0C#8) (ready [.completes junk, .fails junk]))).map (fun s => (s.log, s.returned))
      = some ([⟨⟨0x80#8, 0x18#8, 0x00#8, 0x00#8⟩, some ⟨0x00#8, 0x00#8, 0x00#8, 0x00#8⟩⟩,
          ⟨⟨0x80#8, 0x18#8, 0x00#8, 0x00#8⟩, none⟩], [.status .busTransferError]) := by decide

theorem test_wrreg_sends_once :
    framesOf (exec (.wrreg 0x0C#8 0x5234#16) (ready (replies junk))) = some [0x4018A468#32] := by decide

theorem test_wrreg_out_of_contract :
    refusalOf (exec (.wrreg 0xFF#8 0x0000#16) (ready [])) = some (.contractViolation 0xFF#8) := by decide

theorem test_rdsens_value :
    returnsOf (exec .rdsens (ready (replies ⟨0x12#8, 0x34#8, 0x56#8, 0x78#8⟩)))
      = some [.value32 0x12345678#32] := by decide

theorem test_rdsens_sends_twice :
    framesOf (exec .rdsens (ready (replies junk))) = some [0x20000000#32, 0x20000000#32] := by decide

theorem test_init_success :
    (nextOf (exec (.init cfg0) (fresh ⟨true, true⟩ (replies ⟨0x00#8, 0x0A#8, 0x5F#8, 0xE0#8⟩)))).map
      (fun s => (s.session, s.returned)) = some (.opened cfg0, [.status .success]) := by decide

theorem test_init_mismatch :
    (nextOf (exec (.init cfg0) (fresh ⟨true, true⟩ (replies ⟨0x00#8, 0x0A#8, 0x60#8, 0x00#8⟩)))).map
      (fun s => (s.session, s.returned)) = some (.opened cfg0, [.status .identificationMismatch]) := by decide

theorem test_rdrate_most_negative :
    returnsOf (exec .rdrate (ready (replies ⟨0x00#8, 0x10#8, 0x00#8, 0x00#8⟩)))
      = some [.rate ⟨-32768, 80⟩] := by decide

theorem test_rdrate_minus_one :
    returnsOf (exec .rdrate (ready (replies ⟨0x00#8, 0x1F#8, 0xFF#8, 0xE0#8⟩)))
      = some [.rate ⟨-1, 80⟩] := by decide

theorem test_rdtemp_above_bias :
    returnsOf (exec .rdtemp (ready (replies ⟨0x00#8, 0x19#8, 0x00#8, 0x00#8⟩)))
      = some [.temperature ⟨1, 5⟩] := by decide

theorem test_rdtemp_wrap32 :
    returnsOf (exec .rdtemp { ready (replies ⟨0x00#8, 0x18#8, 0xF0#8, 0x00#8⟩) with
        params := { defaultParams with tempBelowBias := .wrap32 } })
      = some [.temperature ⟨4294967295, 5⟩] := by decide

theorem test_rspReg_without_session :
    returnsOf (exec (.rspReg 0x000A4680#32) State.reset) = some [.value16 0x5234#16] := by decide

theorem test_rspSensor_without_session :
    returnsOf (exec (.rspSensor 0x000A4680#32) State.reset) = some [.value32 0x000A4680#32] := by decide

theorem test_no_session_before_contract :
    refusalOf (exec (.rdreg 0x80#8) State.reset) = some .noSession := by decide

/-! ### Witnesses: each statement's hypotheses are met, each clause at a boundary of its range -/

def x0 : Quad := ⟨0x00#8, 0x0A#8, 0x46#8, 0x80#8⟩

theorem wit_ParityFollowsTheCountAboveBitZero :
    (0x80000002#32).getLsbD 0 = false ∧ 1 ≤ 1 ∧ 1 ≤ 31 ∧ (parity 0x80000002#32).getLsbD 1 = true ∧
      (parity 0x80000002#32).getLsbD 31 = true := by decide

theorem wit_ParityNeverClearsBitZero : (0x80180001#32).getLsbD 0 = true := by decide

theorem wit_EveryCommandFrameHasOddWeight : (0x00#8).toNat ≤ 0x7F ∧ (0x7F#8).toNat ≤ 0x7F := by decide

theorem wit_ReadFrameLayout : (0x00#8).toNat ≤ 0x7F ∧ (0x7F#8).toNat ≤ 0x7F := by decide

theorem wit_WriteFrameLayout : (0x7F#8).toNat ≤ 0x7F := by decide

theorem wit_EncodersAreInjectiveAndDisjoint :
    (0x00#8).toNat ≤ 0x7F ∧ (0x7F#8).toNat ≤ 0x7F ∧ encRead 0x00#8 = encRead 0x00#8 ∧
      encWrite 0x7F#8 0xFFFF#16 = encWrite 0x7F#8 0xFFFF#16 := by decide

theorem wit_DecRegIgnoresTheOtherBits (k : Nat) (h : 5 ≤ k) (h' : k ≤ 20) :
    (0xFFE0001F#32).getLsbD k = (0x00000000#32).getLsbD k := by
  interval_cases k <;> decide

theorem wit_DecRegOfAWriteFrame : (0x7F#8).toNat ≤ 0x7F := by decide

theorem wit_DecodeAsInvertsEncode :
    (Instr.rdreg 0x7F#8).wellFormed = true ∧ (Instr.init cfg0).wellFormed = true ∧
      ∀ c, Instr.init cfg0 = .init c → c = cfg0 :=
  ⟨by decide, by decide, fun _ h => (Instr.init.inj h).symm⟩

theorem wit_CommandFramesAreClassified : (0x7F#8).toNat ≤ 0x7F := by decide

theorem wit_AcceptedWordsAreEncoded :
    decodeWord defaultParams 0x80180000#32 = .ok (.rdreg 0x0C#8) ∧
    decodeWord defaultParams 0x40FFFFFF#32 = .ok (.wrreg 0x7F#8 0xFFFF#16) ∧
    decodeWord defaultParams 0x20000000#32 = .ok .rdsens := by decide

theorem wit_RateFollowsTheTwoBranches : (0x7FFF#16).toNat < 0x8000 ∧ 0x8000 ≤ (0x8000#16).toNat := by decide

theorem wit_TemperatureFormula : 799 ≤ (0xC7C0#16).toNat / 64 ∧ (0xC7BF#16).toNat / 64 < 799 := by decide

theorem wit_transactions_complete :
    (ready (replies x0)).busAnswer 0 = .completes x0 ∧ (ready (replies x0)).busAnswer 1 = .completes junk ∧
      (ready (replies x0)).session = .opened cfg0 := by decide

theorem wit_first_transaction_fails :
    (ready [.fails junk]).busAnswer 0 = .fails junk ∧ (ready [.fails junk]).session = .opened cfg0 := by decide

theorem wit_second_transaction_fails :
    (ready [.completes x0, .fails junk]).busAnswer 0 = .completes x0 ∧
      (ready [.completes x0, .fails junk]).busAnswer 1 = .fails junk ∧
      (ready [.completes x0, .fails junk]).session = .opened cfg0 := by decide

theorem wit_RepliesLagByOneTransaction :
    (ready (replies x0)).busAnswer 0 = .completes x0 ∧ (ready (replies x0)).busAnswer 1 = .completes junk := by
  decide

theorem wit_ExchangeSendsTwiceAndStopsAtAFailure :
    ((ready (replies x0)).busAnswer 0 = .completes x0 ∧ (ready (replies x0)).busAnswer 1 = .completes junk) ∧
    (ready [.fails junk]).busAnswer 0 = .fails junk ∧
    ((ready [.completes x0, .fails junk]).busAnswer 0 = .completes x0 ∧
      (ready [.completes x0, .fails junk]).busAnswer 1 = .fails junk) := by decide

theorem wit_TheFirstReplyHasNoEffect : ∃ t, exec (.rdreg 0x0C#8) (ready (replies x0)) = .next t := ⟨_, rfl⟩

theorem wit_TheBusConfigurationHasNoEffect :
    ((ready (replies x0)).session = .opened cfg0 ∧ ∃ t, exec (.rdreg 0x0C#8) (ready (replies x0)) = .next t) ∧
      ∃ t, exec (.init cfg0) (fresh ⟨true, true⟩ (replies x0)) = .next t :=
  ⟨⟨rfl, _, rfl⟩, _, rfl⟩

theorem wit_addresses_at_the_contract : (0x7F#8).toNat ≤ 0x7F ∧ 0x80 ≤ (0x80#8).toNat := by decide

theorem wit_RdregReadsARegister :
    (0x7F#8).toNat ≤ 0x7F ∧ 0x80 ≤ (0x80#8).toNat ∧ (ready (replies x0)).session = .opened cfg0 ∧
      (ready (replies x0)).busAnswer 0 = .completes x0 ∧ (ready (replies x0)).busAnswer 1 = .completes junk ∧
      State.reset.session = .closed := by decide

theorem wit_WrregWritesARegisterOnce :
    (0x7F#8).toNat ≤ 0x7F ∧ 0x80 ≤ (0x80#8).toNat ∧ (ready (replies x0)).session = .opened cfg0 ∧
      (ready (replies x0)).busAnswer 0 = .completes x0 ∧ (ready [.fails junk]).busAnswer 0 = .fails junk ∧
      State.reset.session = .closed := by decide

theorem wit_RdsensReadsTheSensorWord :
    (ready (replies x0)).session = .opened cfg0 ∧ (ready (replies x0)).busAnswer 0 = .completes x0 ∧
      (ready (replies x0)).busAnswer 1 = .completes junk ∧ State.reset.session = .closed := by decide

theorem wit_RdrateReadsTheRate :
    (ready (replies x0)).session = .opened cfg0 ∧ (ready (replies x0)).busAnswer 0 = .completes x0 ∧
      (ready (replies x0)).busAnswer 1 = .completes junk ∧ State.reset.session = .closed := by decide

/-- The replies that carry 0xC7C0, at the bias, and 0xC7BF, just below it, for each value of the parameter. -/
theorem wit_RdtempReadsTheTemperature :
    799 ≤ ((frame ⟨0x00#8, 0x18#8, 0xF8#8, 0x00#8⟩).extractLsb' 5 16).toNat / 64 ∧
      ((frame ⟨0x00#8, 0x18#8, 0xF7#8, 0xE0#8⟩).extractLsb' 5 16).toNat / 64 < 799 ∧
      (ready []).params.tempBelowBias = .unset ∧
      ({ ready [] with params := { defaultParams with tempBelowBias := .signed } } : State).params.tempBelowBias
        = .signed ∧
      ({ ready [] with params := { defaultParams with tempBelowBias := .wrap32 } } : State).params.tempBelowBias
        = .wrap32 ∧
      (ready (replies ⟨0x00#8, 0x18#8, 0xF7#8, 0xE0#8⟩)).busAnswer 0
        = .completes ⟨0x00#8, 0x18#8, 0xF7#8, 0xE0#8⟩ := by decide

theorem wit_InitRunsItsThreeStepsInOrder :
    (fresh ⟨false, false⟩ []).session = .closed ∧ (fresh ⟨false, false⟩ []).handleAnswer.allocated = false ∧
      (fresh ⟨true, false⟩ []).handleAnswer = ⟨true, false⟩ ∧
      (fresh ⟨true, true⟩ (replies x0)).session = .closed ∧
      (fresh ⟨true, true⟩ (replies x0)).handleAnswer = ⟨true, true⟩ ∧
      (fresh ⟨true, true⟩ (replies x0)).busAnswer 0 = .completes x0 ∧
      (fresh ⟨true, true⟩ (replies x0)).busAnswer 1 = .completes junk ∧
      (fresh ⟨true, true⟩ [.fails junk]).busAnswer 0 = .fails junk ∧
      (fresh ⟨true, true⟩ [.completes x0, .fails junk]).busAnswer 0 = .completes x0 ∧
      (fresh ⟨true, true⟩ [.completes x0, .fails junk]).busAnswer 1 = .fails junk := by decide

theorem undisturbed_ready : (ready (replies x0)).Undisturbed := by
  intro k l hk h
  interval_cases k <;> cases h

theorem wit_OpenSessionStaysOpen :
    let s : State := { ready (replies x0) with program := [.operation .rdrate] }
    s.session = .opened cfg0 ∧ s.Undisturbed ∧ s.program.head? ≠ some .reset ∧ ∃ t, step s = .next t :=
  ⟨rfl, undisturbed_ready, by decide, _, rfl⟩

theorem wit_OnlyInitOpensASession :
    ∃ t, exec (.init cfg0) (fresh ⟨true, true⟩ (replies x0)) = .next t ∧
      (fresh ⟨true, true⟩ (replies x0)).session = .closed ∧ t.session = .opened cfg0 := ⟨_, rfl, rfl, rfl⟩

theorem wit_ErrorsAreThoseOfTheTaxonomy :
    ∃ t, exec .rdsens (ready [.fails junk]) = .next t ∧
      t.returned = (ready [.fails junk]).returned ++ [.status .busTransferError] := ⟨_, rfl, rfl⟩

theorem wit_EachOperationReturnsOneResult :
    (ready (replies x0)).Undisturbed ∧ ∃ t, exec .rdsens (ready (replies x0)) = .next t :=
  ⟨undisturbed_ready, _, rfl⟩

theorem wit_TheLogGrowsByTheOperationsFrame :
    (ready (replies x0)).Undisturbed ∧ (∃ t, exec (.wrreg 0x7F#8 0#16) (ready (replies x0)) = .next t) ∧
      (Instr.wrreg 0x7F#8 0#16).row = .wrreg ∧
      (∃ t, exec (.rspReg 0#32) (ready (replies x0)) = .next t) ∧ (Instr.rspReg 0#32).row = .rspReg ∧
      (∃ t, exec (.rspSensor 0#32) (ready (replies x0)) = .next t) ∧ (Instr.rspSensor 0#32).row = .rspSensor :=
  ⟨undisturbed_ready, ⟨_, rfl⟩, rfl, ⟨_, rfl⟩, rfl, ⟨_, rfl⟩, rfl⟩

theorem wit_ParametersAndProgramAreUntouched : ∃ t, exec .rdtemp (ready (replies ⟨0#8, 0x19#8, 0#8, 0#8⟩)) = .next t :=
  ⟨_, rfl⟩

theorem wit_ResultsAreNeverReadBack : ∃ t, exec .rdrate (ready (replies x0)) = .next t := ⟨_, rfl⟩

theorem wit_AHangingBusBlocksForEver :
    (Instr.rdreg 0x7F#8).wellFormed = true ∧ (ready [.hangs]).session = .opened cfg0 ∧
      (Instr.rdreg 0x7F#8).row ≠ .init ∧ (Instr.rdreg 0x7F#8).row ≠ .rspReg ∧
      (Instr.rdreg 0x7F#8).row ≠ .rspSensor ∧ (Instr.rdreg 0x7F#8).row ≠ .wrreg ∧
      (ready [.hangs]).busAnswer 0 = .hangs ∧ (ready [.completes x0, .hangs]).busAnswer 0 = .completes x0 ∧
      (ready [.completes x0, .hangs]).busAnswer 1 = .hangs := by decide

theorem wit_AHangingBusBlocksForEver_init :
    (fresh ⟨true, true⟩ [.hangs]).session = .closed ∧ (fresh ⟨true, true⟩ [.hangs]).handleAnswer = ⟨true, true⟩ ∧
      (fresh ⟨true, true⟩ [.hangs]).busAnswer 0 = .hangs ∧
      (fresh ⟨true, true⟩ [.completes x0, .hangs]).busAnswer 0 = .completes x0 ∧
      (fresh ⟨true, true⟩ [.completes x0, .hangs]).busAnswer 1 = .hangs := by decide

theorem wit_ResetEventClosesTheBlock :
    ({ ready [] with program := [.reset, .operation .rdrate] } : State).program
      = .reset :: [.operation .rdrate] := rfl

theorem wit_ResetAbandonsARunningOperation :
    Instr.rdsens.wellFormed = true ∧ (ready [.resets junk]).session = .opened cfg0 ∧
      Instr.rdsens.row ≠ .init ∧ Instr.rdsens.row ≠ .rspReg ∧ Instr.rdsens.row ≠ .rspSensor ∧
      Instr.rdsens.row ≠ .wrreg ∧ (ready [.resets junk]).busAnswer 0 = .resets junk ∧
      (ready [.completes x0, .resets junk]).busAnswer 0 = .completes x0 ∧
      (ready [.completes x0, .resets junk]).busAnswer 1 = .resets junk := by decide

theorem wit_ResetAbandonsARunningOperation_init :
    (fresh ⟨true, true⟩ [.resets junk]).session = .closed ∧
      (fresh ⟨true, true⟩ [.resets junk]).handleAnswer = ⟨true, true⟩ ∧
      (fresh ⟨true, true⟩ [.resets junk]).busAnswer 0 = .resets junk ∧
      (fresh ⟨true, true⟩ [.completes x0, .resets junk]).busAnswer 0 = .completes x0 ∧
      (fresh ⟨true, true⟩ [.completes x0, .resets junk]).busAnswer 1 = .resets junk := by decide

theorem wit_AStepRunsTheDecodedOperation :
    ({ ready [] with program := [.operation .rdrate] } : State).program = [.operation .rdrate] ∧
      (({ ready [] with program := [.frame (bytes 0x80180000#32)] } : State).program
          = [.frame (bytes 0x80180000#32)] ∧
        decodeBytes (ready []).params (bytes 0x80180000#32) = .ok (.rdreg 0x0C#8)) := by decide

theorem wit_AStepWaitsOrRefusesWhereNothingRuns :
    State.reset.program = [] ∧
      (({ ready [] with program := [.frame (bytes 0xC0000001#32)] } : State).program
          = [.frame (bytes 0xC0000001#32)] ∧
        decodeBytes (ready []).params (bytes 0xC0000001#32) = .error .notAFrame) := by decide

/-- A state after one failed RDREG, with the next operation issued. -/
def busy : State :=
  { ready (replies x0) with
    log := [⟨bytes 0x80180000#32, none⟩], asked := 1, returned := [.status .busTransferError]
    program := [.operation .rdrate] }

theorem busy_inv : busy.Inv where
  quiet := ⟨rfl, rfl, rfl, rfl⟩
  framesOnly := by
    intro e he
    rw [List.mem_singleton.mp he]
    exact ⟨.read 0x0C#7, by decide⟩
  allowed := by
    intro r hr
    rw [List.mem_singleton.mp hr]
    trivial
  logAnswered := by decide

theorem wit_EveryStepKeepsTheInvariant : busy.Inv ∧ ∃ t, step busy = .next t := ⟨busy_inv, _, rfl⟩

theorem wit_LoggedFramesHaveOddWeight : busy.Inv ∧ (⟨bytes 0x80180000#32, none⟩ : Transaction) ∈ busy.log :=
  ⟨busy_inv, by decide⟩

end Sys2Proof.Tests
end

section
/-! The state after reset (10_state.md R22). -/

namespace Sys2Proof.Machine

/-! ### reset -/

@[simp] theorem State.reset_session : State.reset.session = .closed := rfl
@[simp] theorem State.reset_log : State.reset.log = [] := rfl

/-- No operation runs at reset, so R17's rule for the time between operations gives the phase and the transient
values. -/
theorem State.reset_quiet : State.reset.Quiet := ⟨rfl, rfl, rfl, rfl⟩

/-- Settles O45: R22's rows, with those of the phase and the transient values taken from `State.reset_quiet`. -/
theorem resetStateIsTheSpecs : Obligations.ResetStateIsTheSpecs := by
  unfold Obligations.ResetStateIsTheSpecs
  obtain ⟨hphase, hcmd, hrx1, hrsp⟩ := State.reset_quiet
  exact ⟨State.reset_session, hphase, hcmd, hrx1, hrsp, State.reset_log⟩

end Sys2Proof.Machine
end

section
/-! The parity bit of a finished frame (40_encode.md R65, R66), counted without the generator. -/

namespace Sys2Proof.Machine

/-- The model's recursive count is the library's count over the low `n` bit positions. -/
theorem onesBelow_eq_countP {w : Nat} (v : BitVec w) (n : Nat) :
    onesBelow v n = (List.range n).countP fun k => v.getLsbD k := by
  induction n with
  | zero => rfl
  | succ n ih =>
    rw [onesBelow, ih, List.range_succ, List.countP_append, Nat.add_comm]
    cases h : v.getLsbD n <;> simp [h]

theorem popcount_above_bit_zero (f : Frame) : popcount (f.extractLsb' 1 31) = onesAboveBitZero f := by
  rw [popcount, onesBelow_eq_countP, onesAboveBitZero]
  apply List.countP_congr
  intro k hk
  simp [List.mem_range.mp hk, Nat.add_comm]

/-- The generator's bit in terms of the count of R65 that does not use the generator. -/
theorem parityBit_eq (f : Frame) : parityBit f = decide (onesAboveBitZero f % 2 = 0) := by
  rw [parityBit, popcount_above_bit_zero]
  rfl

/-- Setting the parity bit does not change what it was computed from (R51). -/
@[simp] theorem onesAboveBitZero_parity (f : Frame) : onesAboveBitZero (parity f) = onesAboveBitZero f := by
  simp only [onesAboveBitZero, parity_getLsbD f (Nat.succ_ne_zero _)]

/-- A frame finished from a word with bit 0 clear carries the parity bit of its own bits 31 down to 1. -/
theorem parity_bit_zero_of_clear {f : Frame} (h : f.getLsbD 0 = false) :
    (parity f).getLsbD 0 = decide (onesAboveBitZero (parity f) % 2 = 0) := by
  rw [parity_bit_zero, h, Bool.false_or, parityBit_eq, onesAboveBitZero_parity]

end Sys2Proof.Machine
end

section
/-! The fields of the command frames (30_encoding.md R46 to R49). A field of fixed content is read off the fixed bits of
its row (`Laws.EncodedShape`); the address and the value are followed bit by bit through the byte formulas. -/

namespace Sys2Proof.Machine

open Sys2Proof.Laws

/-! ### Fields of any frame -/

/-- A field that a mask covers with ones is fixed by the masked word. -/
theorem extractLsb'_eq_of_and_eq {f m c : Frame} (h : f &&& m = c) (start len : Nat)
    (hm : m.extractLsb' start len = BitVec.allOnes len) :
    f.extractLsb' start len = c.extractLsb' start len := by
  rw [← h, BitVec.extractLsb'_and, hm, BitVec.and_allOnes]

theorem parity_extractLsb' (f : Frame) {start : Nat} (hs : start ≠ 0) (len : Nat) :
    (parity f).extractLsb' start len = f.extractLsb' start len := by
  apply BitVec.eq_of_getLsbD_eq
  intro k _
  simp only [BitVec.getLsbD_extractLsb', parity_getLsbD f (show start + k ≠ 0 by omega)]

theorem addrField_parity (f : Frame) : addrField (parity f) = addrField f :=
  parity_extractLsb' f (by decide) 7

theorem dataField_parity (f : Frame) : dataField (parity f) = dataField f :=
  parity_extractLsb' f (by decide) 16

theorem addrField_frame (q : Quad) : addrField (frame q) = q.b1.extractLsb' 1 7 := by
  apply BitVec.eq_of_getLsbD_eq
  intro k hk
  have hbyte : (frame q).getLsbD (17 + k) = q.b1.getLsbD (17 + k - 16) := by
    rw [frame_getLsbD, if_neg (by omega), if_neg (by omega), if_pos (by omega)]
  simp only [addrField, BitVec.getLsbD_extractLsb', hbyte, show 17 + k - 16 = 1 + k by omega]

theorem dataField_frame (q : Quad) :
    dataField (frame q) = q.b1.extractLsb' 0 1 ++ q.b2 ++ q.b3.extractLsb' 1 7 := by
  apply BitVec.eq_of_getLsbD_eq
  intro k hk
  simp only [dataField, BitVec.getLsbD_extractLsb', BitVec.getLsbD_append, frame_getLsbD]
  obtain h3 | h2 | h1 : k < 7 ∨ (7 ≤ k ∧ k < 15) ∨ k = 15 := by omega
  · simp [h3, hk, show 1 + k < 8 by omega]
  · simp [hk, show ¬ k < 7 by omega, show ¬ 1 + k < 8 by omega, show 1 + k < 16 by omega,
      show k - 7 < 8 by omega, show 1 + k - 8 = k - 7 by omega]
  · subst h1
    simp

/-- A frame finished from four bytes, the last with its low bit left free for the parity bit (R51). -/
theorem parity_frame_bit_zero {q : Quad} (h : q.b3.getLsbD 0 = false) :
    (parity (frame q)).getLsbD 0 = decide (onesAboveBitZero (parity (frame q)) % 2 = 0) :=
  parity_bit_zero_of_clear ((frame_getLsbD q 0).trans h)

/-! ### Format CR -/

/-- Byte 1 holds the address from its bit 1 upwards (R52). -/
theorem shiftedAddress_above_bit_zero (a : Byte) : (a <<< 1).extractLsb' 1 7 = a.extractLsb' 0 7 := by
  apply BitVec.eq_of_getLsbD_eq
  intro k hk
  simp [-BitVec.getLsbD_eq_getElem, hk, show 1 + k < 8 by omega]

theorem opcField_encRead {a : Byte} (h : withinContract a = true) : opcField (encRead a) = 0x80#8 :=
  extractLsb'_eq_of_and_eq (EncodedShape.encRead_shape h) 24 8 (by decide)

theorem dataField_encRead {a : Byte} (h : withinContract a = true) : dataField (encRead a) = 0#16 :=
  extractLsb'_eq_of_and_eq (EncodedShape.encRead_shape h) 1 16 (by decide)

theorem addrField_encRead (a : Byte) : addrField (encRead a) = a.extractLsb' 0 7 := by
  rw [encRead, addrField_parity, addrField_frame, shiftedAddress_above_bit_zero]

theorem encRead_bit_zero (a : Byte) :
    (encRead a).getLsbD 0 = decide (onesAboveBitZero (encRead a) % 2 = 0) :=
  parity_frame_bit_zero BitVec.getLsbD_zero

/-! ### Format CW -/

theorem encWrite_shape {a : Byte} (h : withinContract a = true) (v : RegValue) :
    encWrite a v &&& 0xFF000000#32 = 0x40000000#32 := EncodedShape.wrreg a v h defaultParams

theorem opcField_encWrite {a : Byte} (h : withinContract a = true) (v : RegValue) :
    opcField (encWrite a v) = 0x40#8 :=
  extractLsb'_eq_of_and_eq (encWrite_shape h v) 24 8 (by decide)

/-- What is OR-ed into byte 1 beside the address is the value's top bit alone, at bit 0 (R53). -/
theorem topValueBit_above_bit_zero (v : RegValue) : ((v >>> 15).setWidth 8).extractLsb' 1 7 = 0#7 := by
  apply BitVec.eq_of_getLsbD_eq
  intro k _
  have hv : v.getLsbD (15 + (1 + k)) = false := BitVec.getLsbD_of_ge v _ (by omega)
  simp [hv]

theorem addrField_encWrite (a : Byte) (v : RegValue) : addrField (encWrite a v) = a.extractLsb' 0 7 := by
  rw [encWrite, addrField_parity, addrField_frame, BitVec.extractLsb'_or, shiftedAddress_above_bit_zero,
    topValueBit_above_bit_zero, BitVec.or_zero]

/-- The three pieces of the value, one in each of bytes 1 to 3, make up the value (R53). -/
theorem dataField_encWrite (a : Byte) (v : RegValue) : dataField (encWrite a v) = v := by
  rw [encWrite, dataField_parity, dataField_frame]
  apply BitVec.eq_of_getLsbD_eq
  intro k hk
  simp only [BitVec.getLsbD_append, BitVec.getLsbD_extractLsb']
  obtain h3 | h2 | h1 : k < 7 ∨ (7 ≤ k ∧ k < 15) ∨ k = 15 := by omega
  · simp [h3, show 1 + k < 8 by omega]
  · simp [show ¬ k < 7 by omega, show k - 7 < 8 by omega, show 7 + (k - 7) = k by omega]
  · subst h1
    simp

theorem encWrite_bit_zero (a : Byte) (v : RegValue) :
    (encWrite a v).getLsbD 0 = decide (onesAboveBitZero (encWrite a v) % 2 = 0) :=
  parity_frame_bit_zero (by simp)

/-! ### Format CS -/

theorem encSensor_shape (p : Params) :
    encSensor p &&& 0xFFFFFFFE#32 = (sdByte0 p).setWidth 32 <<< 24 := EncodedShape.rdsens rfl p

theorem opcField_encSensor (p : Params) : opcField (encSensor p) = sdByte0 p := by
  have hopc : opcField (encSensor p) = opcField ((sdByte0 p).setWidth 32 <<< 24) :=
    extractLsb'_eq_of_and_eq (encSensor_shape p) 24 8 (by decide)
  rw [hopc]
  apply BitVec.eq_of_getLsbD_eq
  intro k hk
  simp [opcField, hk, show 24 + k < 32 by omega]

/-- Between `SD_BYTE0` and the parity bit CS is zero (R58). -/
theorem encSensor_reserved (p : Params) : (encSensor p).extractLsb' 1 23 = 0#23 := by
  rw [extractLsb'_eq_of_and_eq (encSensor_shape p) 1 23 (by decide)]
  apply BitVec.eq_of_getLsbD_eq
  intro k hk
  simp [show 1 + k < 24 by omega]

theorem encSensor_bit_zero (p : Params) :
    (encSensor p).getLsbD 0 = decide (onesAboveBitZero (encSensor p) % 2 = 0) :=
  parity_frame_bit_zero BitVec.getLsbD_zero

/-! ### The layouts -/

/-- Settles O4: bits 31..25 and bit 24 are parts of the opcode byte, which within contract is 0x80. -/
theorem readFrameLayout : Obligations.ReadFrameLayout := by
  unfold Obligations.ReadFrameLayout
  intro a ha
  have hc : withinContract a = true := decide_eq_true ha
  have hopc : (encRead a).extractLsb' 24 8 = 0x80#8 := opcField_encRead hc
  have hhigh : (encRead a).extractLsb' 25 7 = 0b1000000#7 :=
    extractLsb'_eq_of_and_eq (EncodedShape.encRead_shape hc) 25 7 (by decide)
  have hbit : (encRead a).getLsbD 24 = a.getLsbD 7 := by
    calc (encRead a).getLsbD 24
      _ = ((encRead a).extractLsb' 24 8).getLsbD 0 := by simp
      _ = (a >>> 7).getLsbD 0 := by rw [hopc, contract_high_bit hc]; rfl
      _ = a.getLsbD 7 := by simp
  exact ⟨hhigh, hbit, addrField_encRead a, dataField_encRead hc, encRead_bit_zero a, hopc⟩

/-- Settles O5, field by field. -/
theorem writeFrameLayout : Obligations.WriteFrameLayout := by
  unfold Obligations.WriteFrameLayout
  intro a v ha
  exact ⟨opcField_encWrite (decide_eq_true ha) v, addrField_encWrite a v, dataField_encWrite a v,
    encWrite_bit_zero a v⟩

/-- Settles O6, field by field. -/
theorem sensorFrameLayout : Obligations.SensorFrameLayout := by
  unfold Obligations.SensorFrameLayout
  intro p
  exact ⟨opcField_encSensor p, encSensor_reserved p, encSensor_bit_zero p⟩

end Sys2Proof.Machine
end

section
/-! The parity of a whole frame (40_encode.md R65, R66, R74): what bit 0 adds to the count over bits 31 down to 1. -/

namespace Sys2Proof.Machine

theorem onesInFrame_eq (f : Frame) : onesInFrame f = (f.getLsbD 0).toNat + onesAboveBitZero f := by
  rw [onesInFrame, List.range_succ_eq_map, List.countP_cons, List.countP_map, Nat.add_comm]
  change _ + onesAboveBitZero f = _
  cases f.getLsbD 0 <;> rfl

/-- Odd weight (R66) and the right parity bit (R65) are one property of a frame. -/
theorem onesInFrame_odd_iff (f : Frame) :
    onesInFrame f % 2 = 1 ↔ f.getLsbD 0 = decide (onesAboveBitZero f % 2 = 0) := by
  rw [onesInFrame_eq]
  cases f.getLsbD 0
  · simp
  · simp only [Bool.toNat_true, eq_comm (a := true), decide_eq_true_eq]
    omega

/-- Settles O3: the frames' layouts put at bit 0 the bit that odd weight asks for. -/
theorem everyCommandFrameHasOddWeight : Obligations.EveryCommandFrameHasOddWeight := by
  unfold Obligations.EveryCommandFrameHasOddWeight
  exact ⟨fun a _ => (onesInFrame_odd_iff _).mpr (encRead_bit_zero a),
    fun a v _ => (onesInFrame_odd_iff _).mpr (encWrite_bit_zero a v),
    fun p => (onesInFrame_odd_iff _).mpr (encSensor_bit_zero p)⟩

/-- Settles O1: the OR reaches bit 0 alone, and on a clear bit it leaves the generator's bit. -/
theorem parityFollowsTheCountAboveBitZero : Obligations.ParityFollowsTheCountAboveBitZero := by
  unfold Obligations.ParityFollowsTheCountAboveBitZero
  intro f hclear
  constructor
  · intro k hk
    exact parity_getLsbD f (Nat.one_le_iff_ne_zero.mp hk)
  · calc (parity f).getLsbD 0
      _ = decide (onesAboveBitZero (parity f) % 2 = 0) := parity_bit_zero_of_clear hclear
      _ = decide (onesAboveBitZero f % 2 = 0) := by rw [onesAboveBitZero_parity]

end Sys2Proof.Machine
end

section
/-! The response decoders (41_decode.md R80, R83). Each ORs shifted bytes together; the shifted bytes do not overlap in
the result, so that a bit of it is a bit of one byte, the one in which the frame put together from the bytes has it. -/

namespace Sys2Proof.Machine

/-- Taking a frame apart into bytes loses nothing (R26). -/
theorem frame_bytes (f : Frame) : frame (bytes f) = f := by
  apply BitVec.eq_of_getLsbD_eq
  intro k hk
  rw [frame_getLsbD]
  simp only [bytes, BitVec.getLsbD_extractLsb']
  split_ifs with h3 h2 h1
  · simp [h3]
  · simp [show k - 8 < 8 by omega, show 8 + (k - 8) = k by omega]
  · simp [show k - 16 < 8 by omega, show 16 + (k - 16) = k by omega]
  · simp [show k - 24 < 8 by omega, show 24 + (k - 24) = k by omega]

/-- A byte shifted left in a 32-bit word: zeros below its place, its own bits from there on. -/
theorem shiftedByte_getLsbD (b : Byte) {n k : Nat} (hk : k < 32) :
    (b.setWidth 32 <<< n).getLsbD k = (!decide (k < n) && b.getLsbD (k - n)) := by
  simp [-BitVec.getLsbD_eq_getElem, hk, show k - n < 32 by omega]

/-- R80 on four bytes: bits 15..11, 10..3 and 2..0 of the value come from bytes 1, 2 and 3, and byte 1's bits above
are lost to the reduction (R81). -/
theorem registerBytes_eq_slice (q : Quad) :
    ((q.b1.setWidth 32 <<< 11) ||| (q.b2.setWidth 32 <<< 3) ||| (q.b3.setWidth 32 >>> 5)).setWidth 16
      = (frame q).extractLsb' 5 16 := by
  apply BitVec.eq_of_getLsbD_eq
  intro k hk
  simp only [BitVec.getLsbD_setWidth, BitVec.getLsbD_or, shiftedByte_getLsbD _ (show k < 32 by omega),
    BitVec.getLsbD_ushiftRight, BitVec.getLsbD_extractLsb', frame_getLsbD, hk, show 5 + k < 32 by omega,
    decide_true, Bool.true_and]
  obtain h3 | h2 | h1 : k < 3 ∨ (3 ≤ k ∧ k < 11) ∨ 11 ≤ k := by omega
  · simp [h3, show k < 11 by omega, show 5 + k < 8 by omega]
  · have hb3 : q.b3.getLsbD (5 + k) = false := BitVec.getLsbD_of_ge _ _ (by omega)
    simp [hb3, h2, show ¬ k < 3 by omega, show ¬ 5 + k < 8 by omega, show 5 + k < 16 by omega,
      show 5 + k - 8 = k - 3 by omega]
  · have hb3 : q.b3.getLsbD (5 + k) = false := BitVec.getLsbD_of_ge _ _ (by omega)
    have hb2 : q.b2.getLsbD (k - 3) = false := BitVec.getLsbD_of_ge _ _ (by omega)
    simp [hb3, hb2, show ¬ k < 11 by omega, show ¬ 5 + k < 8 by omega, show ¬ 5 + k < 16 by omega,
      show 5 + k < 24 by omega, show 5 + k - 16 = k - 11 by omega]

/-- R83 on four bytes: each byte keeps its place, so the OR of the shifted bytes is their concatenation (R26). -/
theorem sensorBytes_eq_frame (q : Quad) :
    (q.b0.setWidth 32 <<< 24) ||| (q.b1.setWidth 32 <<< 16) ||| (q.b2.setWidth 32 <<< 8) ||| q.b3.setWidth 32
      = frame q := by
  apply BitVec.eq_of_getLsbD_eq
  intro k hk
  simp only [BitVec.getLsbD_or, shiftedByte_getLsbD _ hk, BitVec.getLsbD_setWidth, frame_getLsbD, hk, decide_true,
    Bool.true_and]
  split_ifs with h3 h2 h1
  · simp [h3, show k < 16 by omega, show k < 24 by omega]
  · have hb3 : q.b3.getLsbD k = false := BitVec.getLsbD_of_ge _ _ (by omega)
    simp [hb3, h2, h3, show k < 24 by omega]
  · have hb3 : q.b3.getLsbD k = false := BitVec.getLsbD_of_ge _ _ (by omega)
    have hb2 : q.b2.getLsbD (k - 8) = false := BitVec.getLsbD_of_ge _ _ (by omega)
    simp [hb3, hb2, h1, h2]
  · have hb3 : q.b3.getLsbD k = false := BitVec.getLsbD_of_ge _ _ (by omega)
    have hb2 : q.b2.getLsbD (k - 8) = false := BitVec.getLsbD_of_ge _ _ (by omega)
    have hb1 : q.b1.getLsbD (k - 16) = false := BitVec.getLsbD_of_ge _ _ (by omega)
    simp [hb3, hb2, hb1, h1]

theorem decReg_eq_slice (f : Frame) : decReg f = f.extractLsb' 5 16 := by
  calc decReg f
    _ = (frame (bytes f)).extractLsb' 5 16 := registerBytes_eq_slice (bytes f)
    _ = f.extractLsb' 5 16 := by rw [frame_bytes]

theorem decSensor_eq_self (f : Frame) : decSensor f = f := by
  calc decSensor f
    _ = frame (bytes f) := sensorBytes_eq_frame (bytes f)
    _ = f := frame_bytes f

/-- Settles O8. -/
theorem decRegIsTheSliceTwentyToFive : Obligations.DecRegIsTheSliceTwentyToFive := by
  unfold Obligations.DecRegIsTheSliceTwentyToFive
  exact decReg_eq_slice

/-- Settles O12: on bytes, the identity applied to the frame they make up, which is their concatenation. -/
theorem decSensorIsVerbatim : Obligations.DecSensorIsVerbatim := by
  unfold Obligations.DecSensorIsVerbatim
  exact ⟨decSensor_eq_self, fun q => decSensor_eq_self (frame q)⟩

end Sys2Proof.Machine
end

section
/-! What becomes of one transaction and of an exchange, answer by answer (20_memory.md R41;
42_exchange_and_operations.md R90, R102), and the state in which an operation built on them ends. -/

namespace Sys2Proof.Machine

variable {f : Frame} {s : State} {x y l : Quad}

/-! ### One transaction -/

theorem busXfer_of_completes {tx : Quad} (h0 : s.busAnswer 0 = .completes y) :
    busXfer tx s = .ok s.chipPending (((s.answered 1).logged ⟨tx, some s.chipPending⟩).withPending y) := by
  simpa [h0] using busXfer_cases tx s

theorem busXfer_of_fails {tx : Quad} (h0 : s.busAnswer 0 = .fails l) :
    busXfer tx s = .failed (((s.answered 1).logged ⟨tx, none⟩).withPending l) := by
  simpa [h0] using busXfer_cases tx s

/-! ### The exchange -/

theorem exchange_of_completes (h0 : s.busAnswer 0 = .completes x) (h1 : s.busAnswer 1 = .completes y) :
    exchange f s = .ok (frame x) (s.exchanged f x y) := by
  simpa [h0, h1] using exchange_cases f s

theorem exchange_of_first_fails (h0 : s.busAnswer 0 = .fails l) :
    exchange f s = .failed (s.firstFailed f l) := by
  simpa [h0] using exchange_cases f s

theorem exchange_of_second_fails (h0 : s.busAnswer 0 = .completes x) (h1 : s.busAnswer 1 = .fails l) :
    exchange f s = .failed (s.secondFailed f l) := by
  simpa [h0, h1] using exchange_cases f s

/-- Settles O23: an exchange writes neither the session nor the record of results, however it ends. -/
theorem exchangeSendsTwiceAndStopsAtAFailure : Obligations.ExchangeSendsTwiceAndStopsAtAFailure := by
  unfold Obligations.ExchangeSendsTwiceAndStopsAtAFailure
  intro f s
  refine ⟨?completes, ?firstFails, ?secondFails⟩
  case completes =>
    intro x y h0 h1
    exact ⟨s.exchanged f x y, exchange_of_completes h0 h1, rfl, rfl, rfl⟩
  case firstFails =>
    intro l h0
    exact ⟨s.firstFailed f l, exchange_of_first_fails h0, rfl, rfl, rfl⟩
  case secondFails =>
    intro x l h0 h1
    exact ⟨s.secondFailed f l, exchange_of_second_fails h0 h1, rfl, rfl, rfl⟩

/-! ### The end of an operation -/

/-- An operation of one transaction goes on once that completes (R95). -/
theorem busXfer_conclude_of_completes {k : Quad → State → Host.Outcome State Fault Refusal}
    (h0 : s.busAnswer 0 = .completes y) :
    (busXfer (bytes f) (s.starts f)).conclude k = k s.chipPending
      ((((s.starts f).answered 1).logged ⟨bytes f, some s.chipPending⟩).withPending y) := by
  rw [busXfer_of_completes (s := s.starts f) h0]
  rfl

theorem busXfer_conclude_of_fails {k : Quad → State → Host.Outcome State Fault Refusal}
    (h0 : s.busAnswer 0 = .fails l) :
    (busXfer (bytes f) (s.starts f)).conclude k = .next (s.afterFirstFailure f l) := by
  rw [busXfer_of_fails (s := s.starts f) h0]
  rfl

/-- An operation whose exchange completes ends with what it makes of the second reply (R90). -/
theorem exchange_conclude_of_completes {res : Frame → Result} (h0 : s.busAnswer 0 = .completes x)
    (h1 : s.busAnswer 1 = .completes y) :
    ((exchange f s).conclude fun rsp t => finish (res rsp) t) = .next (s.afterExchange f x y (res (frame x))) := by
  rw [exchange_of_completes h0 h1]
  rfl

/-- An operation whose exchange fails ends with BusTransferError, whatever it would have done next (R124). -/
theorem exchange_conclude_of_first_fails {k : Frame → State → Host.Outcome State Fault Refusal}
    (h0 : s.busAnswer 0 = .fails l) : (exchange f s).conclude k = .next (s.afterFirstFailure f l) := by
  rw [exchange_of_first_fails h0]
  rfl

theorem exchange_conclude_of_second_fails {k : Frame → State → Host.Outcome State Fault Refusal}
    (h0 : s.busAnswer 0 = .completes x) (h1 : s.busAnswer 1 = .fails l) :
    (exchange f s).conclude k = .next (s.afterSecondFailure f l) := by
  rw [exchange_of_second_fails h0 h1]
  rfl

/-- An operation on a register read is one on the exchange of ENC_READ, its reply decoded (R61, R94). -/
theorem readRegister_conclude_eq (a : Byte) (s : State) (k : RegValue → State → Host.Outcome State Fault Refusal) :
    (readRegister a s).conclude k = (exchange (encRead a) s).conclude fun rsp t => k (decReg rsp) t := by
  rw [readRegister_eq]
  cases exchange (encRead a) s <;> rfl

end Sys2Proof.Machine
end

section
/-! RDREG, WRREG and RDSENS (42_exchange_and_operations.md R94 to R96): what the checks of R129 leave of each, and the
statements about the whole operation. -/

namespace Sys2Proof.Machine

variable {a : Byte} {v : RegValue} {s : State} {cfg : BusCfg}

/-! ### The checks -/

theorem needSession_opened {k : Host.Outcome State Fault Refusal} (hs : s.session = .opened cfg) :
    needSession s k = k := by
  rw [needSession, hs]

theorem needSession_closed {k : Host.Outcome State Fault Refusal} (hs : s.session = .closed) :
    needSession s k = .refused .noSession := by
  rw [needSession, hs]

theorem withinContract_eq_false (ha : 0x80 ≤ a.toNat) : withinContract a = false :=
  decide_eq_false (by omega)

theorem withCommand_ok {op : EncOp} {f : Frame} {k : Frame → Host.Outcome State Fault Refusal}
    (hp : encoderPort s.params op a v = .ok f) : withCommand op a v s k = k f := by
  rw [withCommand, hp]

theorem withCommand_error {op : EncOp} {b : Byte} {k : Frame → Host.Outcome State Fault Refusal}
    (hp : encoderPort s.params op a v = .error b) : withCommand op a v s k = .refused (.contractViolation b) := by
  rw [withCommand, hp]

/-! ### What the checks leave of an operation -/

theorem exec_rdreg_within (hs : s.session = .opened cfg) (ha : withinContract a = true) :
    exec (.rdreg a) s = (exchange (encRead a) s).conclude fun rsp t => finish (.value16 (decReg rsp)) t :=
  (needSession_opened hs).trans (withCommand_ok (if_pos ha))

theorem exec_rdreg_beyond (hs : s.session = .opened cfg) (ha : withinContract a = false) :
    exec (.rdreg a) s = .refused (.contractViolation a) :=
  (needSession_opened hs).trans (withCommand_error (if_neg (ne_true_of_eq_false ha)))

theorem exec_wrreg_within (hs : s.session = .opened cfg) (ha : withinContract a = true) :
    exec (.wrreg a v) s =
      (busXfer (bytes (encWrite a v)) (s.starts (encWrite a v))).conclude fun _ t => finish .nothing t :=
  (needSession_opened hs).trans (withCommand_ok (if_pos ha))

theorem exec_wrreg_beyond (hs : s.session = .opened cfg) (ha : withinContract a = false) :
    exec (.wrreg a v) s = .refused (.contractViolation a) :=
  (needSession_opened hs).trans (withCommand_error (if_neg (ne_true_of_eq_false ha)))

theorem exec_rdsens_opened (hs : s.session = .opened cfg) :
    exec .rdsens s =
      (exchange (encSensor s.params) s).conclude fun rsp t => finish (.value32 (decSensor rsp)) t :=
  needSession_opened hs

/-- R99: while the session is closed, the check for one comes before every other. -/
theorem exec_closed {i : Instr} (hs : s.session = .closed) (hinit : i.row ≠ .init) (hreg : i.row ≠ .rspReg)
    (hsensor : i.row ≠ .rspSensor) : exec i s = .refused .noSession := by
  cases i with
  | rdreg | wrreg | rdsens | rdrate | rdtemp => exact needSession_closed hs
  | init => exact absurd rfl hinit
  | rspReg => exact absurd rfl hreg
  | rspSensor => exact absurd rfl hsensor

/-! ### The operations -/

/-- Settles O26: behind the checks, an exchange whose reply is decoded as the slice of bits 20 to 5 (R80). -/
theorem rdregReadsARegister : Obligations.RdregReadsARegister := by
  unfold Obligations.RdregReadsARegister
  intro a s
  refine ⟨?completes, ?firstFails, ?secondFails, ?beyond, ?closed⟩
  case completes =>
    intro cfg x y hs ha h0 h1
    rw [exec_rdreg_within hs (decide_eq_true ha), exchange_conclude_of_completes h0 h1, decReg_eq_slice]
  case firstFails =>
    intro cfg l hs ha h0
    rw [exec_rdreg_within hs (decide_eq_true ha), exchange_conclude_of_first_fails h0]
  case secondFails =>
    intro cfg x l hs ha h0 h1
    rw [exec_rdreg_within hs (decide_eq_true ha), exchange_conclude_of_second_fails h0 h1]
  case beyond =>
    intro cfg hs ha
    exact exec_rdreg_beyond hs (withinContract_eq_false ha)
  case closed =>
    intro hs
    exact needSession_closed hs

/-- Settles O27: behind the checks, one transaction whose answer decides how the operation ends. -/
theorem wrregWritesARegisterOnce : Obligations.WrregWritesARegisterOnce := by
  unfold Obligations.WrregWritesARegisterOnce
  intro a v s
  refine ⟨?completes, ?fails, ?beyond, ?closed⟩
  case completes =>
    intro cfg y hs ha h0
    rw [exec_wrreg_within hs (decide_eq_true ha), busXfer_conclude_of_completes h0]
    rfl
  case fails =>
    intro cfg l hs ha h0
    rw [exec_wrreg_within hs (decide_eq_true ha), busXfer_conclude_of_fails h0]
  case beyond =>
    intro cfg hs ha
    exact exec_wrreg_beyond hs (withinContract_eq_false ha)
  case closed =>
    intro hs
    exact needSession_closed hs

/-- Settles O28: behind the check for a session, an exchange whose reply is returned as it is (R83). -/
theorem rdsensReadsTheSensorWord : Obligations.RdsensReadsTheSensorWord := by
  unfold Obligations.RdsensReadsTheSensorWord
  intro s
  refine ⟨?completes, ?firstFails, ?secondFails, ?closed⟩
  case completes =>
    intro cfg x y hs h0 h1
    rw [exec_rdsens_opened hs, exchange_conclude_of_completes h0 h1, decSensor_eq_self]
  case firstFails =>
    intro cfg l hs h0
    rw [exec_rdsens_opened hs, exchange_conclude_of_first_fails h0]
  case secondFails =>
    intro cfg x l hs h0 h1
    rw [exec_rdsens_opened hs, exchange_conclude_of_second_fails h0 h1]
  case closed =>
    intro hs
    exact needSession_closed hs

end Sys2Proof.Machine
end

section
/-! INIT (42_exchange_and_operations.md R97, R98, R106): one equation for each way its first two steps can go, the third
step being an operation on an exchange like any other. -/

namespace Sys2Proof.Machine

variable {s : State} {cfg : BusCfg}

/-- R98: the upper byte of the identifier is bits 20 down to 13 of the response. -/
theorem identified_decReg_iff (f : Frame) : identified (decReg f) = true ↔ f.extractLsb' 13 8 = 0x52#8 := by
  have hbyte : (f.extractLsb' 5 16).extractLsb' 8 8 = f.extractLsb' 13 8 := by
    apply BitVec.eq_of_getLsbD_eq
    intro k hk
    simp only [BitVec.getLsbD_extractLsb', hk, decide_true, Bool.true_and, show 8 + k < 16 by omega,
      show 5 + (8 + k) = 13 + k by omega]
  rw [decReg_eq_slice, identified, hbyte, beq_iff_eq, idPrefix]

theorem exec_init_opened {c : BusCfg} (hs : s.session = .opened c) :
    exec (.init cfg) s = .refused .sessionAlreadyOpen := by
  simp only [exec, execInit, hs]

theorem exec_init_unallocated (hs : s.session = .closed) (ha : s.handleAnswer.allocated = false) :
    exec (.init cfg) s = .next (s.afterFailedInit .allocationFailure) := by
  simp only [exec, execInit, hs, if_pos ha]
  rfl

theorem exec_init_unconfigured (hs : s.session = .closed) (ha : s.handleAnswer = ⟨true, false⟩) :
    exec (.init cfg) s = .next (s.afterFailedInit .busInitError) := by
  simp only [exec, execInit, hs, ha]
  rfl

/-- The machine's two updates of R97 step 2 are the state the statements read the identifier in. -/
theorem State.opens_handleAnswered (s : State) (cfg : BusCfg) : s.handleAnswered.opens cfg = s.sessionOpened cfg := rfl

/-- With a handle and an open bus, INIT is an operation on an exchange that returns the outcome of R98's test. -/
theorem exec_init_configured (hs : s.session = .closed) (ha : s.handleAnswer = ⟨true, true⟩) :
    exec (.init cfg) s =
      (exchange (encRead (s.params.addrPid.setWidth 8)) (s.sessionOpened cfg)).conclude fun rsp t =>
        finish (.status (if rsp.extractLsb' 13 8 = 0x52#8 then .success else .identificationMismatch)) t := by
  simp only [exec, execInit, hs, ha, Bool.true_eq_false, if_false, readRegister_conclude_eq,
    State.opens_handleAnswered, identified_decReg_iff]
  congr 1
  funext rsp t
  split <;> rfl

/-- Settles O31: one equation for each answer to the first two steps; the third step is an exchange in the opened
state. -/
theorem initRunsItsThreeStepsInOrder : Obligations.InitRunsItsThreeStepsInOrder := by
  unfold Obligations.InitRunsItsThreeStepsInOrder
  intro cfg s hs
  refine ⟨exec_init_unallocated hs, exec_init_unconfigured hs, fun ha => ?_⟩
  rw [exec_init_configured hs ha]
  refine ⟨?completes, ?firstFails, ?secondFails⟩
  case completes =>
    intro x y h0 h1
    exact exchange_conclude_of_completes h0 h1
  case firstFails =>
    intro l h0
    exact exchange_conclude_of_first_fails h0
  case secondFails =>
    intro x l h0 h1
    exact exchange_conclude_of_second_fails h0 h1

end Sys2Proof.Machine
end

section
/-! The refusals of an operation, said once for each value of the session (42_exchange_and_operations.md R99, R106;
60_exceptions.md R126, R127, R129). -/

namespace Sys2Proof.Machine

variable {i : Instr} {s : State} {r : Refusal} {cfg : BusCfg}

theorem finish_ne_refused (q : Result) (t : State) : finish q t ≠ .refused r := nofun

/-- A bus sequence refuses nothing of itself. -/
theorem Bus.conclude_refused {α : Type} {b : Bus α} {k : α → State → Host.Outcome State Fault Refusal}
    (h : b.conclude k = .refused r) : ∃ a t, k a t = .refused r := by
  cases b with
  | ok a t => exact ⟨a, t, h⟩
  | failed t => exact absurd h (finish_ne_refused _ t)
  | hung => cases h
  | abandoned t => cases h

/-- An operation that returns a result whenever its bus sequence completes is not refused. -/
theorem Bus.conclude_finish_ne_refused {α : Type} (b : Bus α) (res : α → Result) :
    (b.conclude fun x t => finish (res x) t) ≠ .refused r := by
  intro h
  obtain ⟨x, t, hk⟩ := Bus.conclude_refused h
  exact finish_ne_refused _ t hk

theorem exec_init_closed_ne_refused (hs : s.session = .closed) : exec (.init cfg) s ≠ .refused r := by
  match ha : s.handleAnswer with
  | ⟨false, _⟩ => rw [exec_init_unallocated hs (by rw [ha])]; nofun
  | ⟨true, false⟩ => rw [exec_init_unconfigured hs ha]; nofun
  | ⟨true, true⟩ => rw [exec_init_configured hs ha]; exact Bus.conclude_finish_ne_refused _ _

/-- Every refusal while the session is closed. -/
theorem exec_closed_refused (hs : s.session = .closed) (h : exec i s = .refused r) :
    r = .noSession ∧ i.row ≠ .init ∧ i.row ≠ .rspReg ∧ i.row ≠ .rspSensor := by
  cases i with
  | rdreg | wrreg | rdsens | rdrate | rdtemp =>
    have h' := (needSession_closed hs).symm.trans h
    injection h' with hr
    exact ⟨hr.symm, by simp [Instr.row]⟩
  | init => exact absurd h (exec_init_closed_ne_refused hs)
  | rspReg => cases h
  | rspSensor => cases h

/-- Every refusal while a session is open. -/
theorem exec_opened_refused (hs : s.session = .opened cfg) (h : exec i s = .refused r) :
    (r = .sessionAlreadyOpen ∧ i.row = .init) ∨ (∃ a, r = .contractViolation a ∧ i.wellFormed = false) ∨
      (r = .tempBelowBias ∧ i.row = .rdtemp) := by
  cases i with
  | rdreg a =>
    cases ha : withinContract a with
    | true =>
      rw [exec_rdreg_within hs ha] at h
      exact absurd h (Bus.conclude_finish_ne_refused _ _)
    | false =>
      rw [exec_rdreg_beyond hs ha] at h
      injection h with h
      exact .inr (.inl ⟨a, h.symm, ha⟩)
  | wrreg a v =>
    cases ha : withinContract a with
    | true =>
      rw [exec_wrreg_within hs ha] at h
      exact absurd h (Bus.conclude_finish_ne_refused _ _)
    | false =>
      rw [exec_wrreg_beyond hs ha] at h
      injection h with h
      exact .inr (.inl ⟨a, h.symm, ha⟩)
  | rdsens =>
    rw [exec_rdsens_opened hs] at h
    exact absurd h (Bus.conclude_finish_ne_refused _ _)
  | init c =>
    rw [exec_init_opened hs] at h
    injection h with h
    exact .inl ⟨h.symm, rfl⟩
  | rdrate =>
    have h' := (needSession_opened hs).symm.trans h
    exact absurd h' (Bus.conclude_finish_ne_refused _ _)
  | rdtemp =>
    have h' := (needSession_opened hs).symm.trans h
    obtain ⟨raw, t, hk⟩ := Bus.conclude_refused h'
    split at hk
    · exact absurd hk (finish_ne_refused _ t)
    · injection hk with hk
      exact .inr (.inr ⟨hk.symm, rfl⟩)
  | rspReg => cases h
  | rspSensor => cases h

/-- Settles O33: no refusal while a session is open is for want of one, and every refusal while it is closed is. -/
theorem noSessionExactlyWhileClosed : Obligations.NoSessionExactlyWhileClosed := by
  unfold Obligations.NoSessionExactlyWhileClosed
  intro i s
  constructor
  · intro h
    cases hs : s.session with
    | closed => exact ⟨rfl, (exec_closed_refused hs h).2⟩
    | opened cfg =>
      obtain ⟨hr, _⟩ | ⟨a, hr, _⟩ | ⟨hr, _⟩ := exec_opened_refused hs h <;> cases hr
  · rintro ⟨hs, hinit, hreg, hsensor⟩
    exact exec_closed hs hinit hreg hsensor

/-- Settles O34: of the refusals while a session is open, this one is INIT's, and while it is closed there is none but
for want of a session. -/
theorem secondInitIsRefused : Obligations.SecondInitIsRefused := by
  unfold Obligations.SecondInitIsRefused
  intro i s
  constructor
  · intro h
    cases hs : s.session with
    | closed => cases (exec_closed_refused hs h).1
    | opened cfg =>
      obtain ⟨_, hrow⟩ | ⟨a, hr, _⟩ | ⟨hr, _⟩ := exec_opened_refused hs h
      · exact ⟨⟨cfg, rfl⟩, hrow⟩
      · cases hr
      · cases hr
  · rintro ⟨⟨cfg, hs⟩, hrow⟩
    cases i with
    | init c => exact exec_init_opened hs
    | _ => cases hrow

end Sys2Proof.Machine
end

section
/-! The two conversions (43_conversions.md R110, R113, R115): one equation for each branch, and the range of RATE. -/

namespace Sys2Proof.Machine

variable {mode : TempBelowBias} {raw : RegValue}

/-! ### RATE -/

/-- The model subtracts natural numbers; a 16-bit value does not exceed 0xFFFF, so nothing is cut off. -/
theorem rate_of_sign_bit_set (h : 0x8000 ≤ raw.toNat) : rate raw = ⟨-((0xFFFF : Int) - raw.toNat + 1), 80⟩ := by
  have hraw := raw.isLt
  have hnum : -((0xFFFF - raw.toNat + 1 : Nat) : Int) = -((0xFFFF : Int) - raw.toNat + 1) := by omega
  rw [rate, if_pos h, hnum, rateScale]

theorem rate_of_sign_bit_clear (h : raw.toNat < 0x8000) : rate raw = ⟨raw.toNat, 80⟩ := by
  rw [rate, if_neg (Nat.not_le.mpr h), rateScale]

/-- R110's two branches are the two's-complement reading of 16 bits. -/
theorem rate_eq_toInt (raw : RegValue) : rate raw = ⟨raw.toInt, 80⟩ := by
  obtain h | h := Nat.lt_or_ge raw.toNat 0x8000
  · rw [rate_of_sign_bit_clear h, BitVec.toInt_eq_toNat_of_lt (by omega)]
  · have hnum : -((0xFFFF : Int) - raw.toNat + 1) = raw.toInt := by
      rw [BitVec.toInt_eq_toNat_cond, if_neg (by omega)]
      omega
    rw [rate_of_sign_bit_set h, hnum]

/-- The two ends of R110's range are the least and the greatest 16-bit two's-complement number over 80. -/
theorem rate_toRat_bounds (raw : RegValue) :
    -4096 / 10 ≤ (rate raw).toRat ∧ (rate raw).toRat ≤ 4095875 / 10000 := by
  have hlow : ((-32768 : Int) : Rat) ≤ raw.toInt := Int.cast_le.mpr (BitVec.le_toInt raw)
  have hhigh : (raw.toInt : Rat) ≤ (32767 : Int) := Int.cast_le.mpr (Int.le_of_lt_add_one BitVec.toInt_lt)
  rw [rate_eq_toInt, Ratio.toRat]
  push_cast at hlow hhigh ⊢
  constructor <;> linarith

/-- Settles O18, from the equation of each branch and the range. -/
theorem rateFollowsTheTwoBranches : Obligations.RateFollowsTheTwoBranches := by
  unfold Obligations.RateFollowsTheTwoBranches
  intro raw
  exact ⟨rate_of_sign_bit_set, rate_of_sign_bit_clear, rate_toRat_bounds raw⟩

/-! ### TEMP -/

/-- Shifting the zero-extended value right by six bits divides it by 64 (R113, R114). -/
theorem tempShifted_toNat (raw : RegValue) : (tempShifted raw).toNat = raw.toNat / 64 := by
  rw [tempShifted, BitVec.toNat_ushiftRight, BitVec.toNat_setWidth_of_le (by omega), tempShift,
    Nat.shiftRight_eq_div_pow]

/-- Below the bias the 32-bit subtraction borrows from `2^32` (R115). -/
theorem tempShifted_sub_bias_toNat (h : raw.toNat / 64 < 799) :
    ((tempShifted raw - tempBias).toNat : Int) = (2 : Int) ^ 32 + (raw.toNat / 64 : Int) - 799 := by
  have hbias : tempBias.toNat = 799 := rfl
  rw [BitVec.toNat_sub, tempShifted_toNat, hbias]
  omega

/-- The model's comparison with the bias, on the raw value. -/
theorem tempBias_le_iff (raw : RegValue) : (tempShifted raw).toNat ≥ tempBias.toNat ↔ 799 ≤ raw.toNat / 64 := by
  rw [tempShifted_toNat]
  rfl

theorem not_tempBias_le (h : raw.toNat / 64 < 799) : ¬ (tempShifted raw).toNat ≥ tempBias.toNat :=
  mt (tempBias_le_iff raw).mp (Nat.not_le.mpr h)

theorem temp_at_or_above_bias (h : 799 ≤ raw.toNat / 64) :
    temp mode raw = some ⟨(raw.toNat / 64 : Int) - 799, 5⟩ := by
  unfold temp
  rw [if_pos ((tempBias_le_iff raw).mpr h), tempShifted_toNat]
  rfl

/-- With the signed reading the bias makes no difference to the formula (R115). -/
theorem temp_signed (raw : RegValue) : temp .signed raw = some ⟨(raw.toNat / 64 : Int) - 799, 5⟩ := by
  obtain h | h := Nat.lt_or_ge (raw.toNat / 64) 799
  · rw [temp, if_neg (not_tempBias_le h), tempShifted_toNat]
    rfl
  · exact temp_at_or_above_bias h

theorem temp_wrap32_below_bias (h : raw.toNat / 64 < 799) :
    temp .wrap32 raw = some ⟨(2 : Int) ^ 32 + (raw.toNat / 64 : Int) - 799, 5⟩ := by
  rw [temp, if_neg (not_tempBias_le h), ← tempShifted_sub_bias_toNat h]
  rfl

theorem temp_unset_below_bias (h : raw.toNat / 64 < 799) : temp .unset raw = none := by
  rw [temp, if_neg (not_tempBias_le h)]

/-- Settles O20, an equation for each side of the bias and, below it, for each value of the parameter. -/
theorem temperatureFormula : Obligations.TemperatureFormula := by
  unfold Obligations.TemperatureFormula
  intro mode raw
  exact ⟨temp_at_or_above_bias, fun _ => temp_signed raw, temp_wrap32_below_bias, temp_unset_below_bias⟩

end Sys2Proof.Machine
end

section
/-! RDRATE and RDTEMP (43_conversions.md R111, R117): register reads whose value is converted, so each is an operation on
an exchange whose reply is read at bits 20 to 5 (R80). -/

namespace Sys2Proof.Machine

variable {s : State} {cfg : BusCfg}

theorem exec_rdrate_opened (hs : s.session = .opened cfg) :
    exec .rdrate s = (exchange (encRead (s.params.addrRate.setWidth 8)) s).conclude fun rsp t =>
      finish (.rate ⟨(rsp.extractLsb' 5 16).toInt, 80⟩) t := by
  simp only [← rate_eq_toInt, ← decReg_eq_slice]
  exact (needSession_opened hs).trans (readRegister_conclude_eq _ s _)

/-- Settles O29: behind the check for a session, an exchange whose reply is read as a two's-complement number. -/
theorem rdrateReadsTheRate : Obligations.RdrateReadsTheRate := by
  unfold Obligations.RdrateReadsTheRate
  intro s
  refine ⟨?completes, ?firstFails, ?secondFails, ?closed⟩
  case completes =>
    intro cfg x y hs h0 h1
    rw [exec_rdrate_opened hs, exchange_conclude_of_completes h0 h1]
  case firstFails =>
    intro cfg l hs h0
    rw [exec_rdrate_opened hs, exchange_conclude_of_first_fails h0]
  case secondFails =>
    intro cfg x l hs h0 h1
    rw [exec_rdrate_opened hs, exchange_conclude_of_second_fails h0 h1]
  case closed =>
    intro hs
    exact needSession_closed hs

/-- The refusal below the bias comes after the exchange, in place of a result (R115, R129). -/
theorem exec_rdtemp_opened (hs : s.session = .opened cfg) :
    exec .rdtemp s = (exchange (encRead (s.params.addrTemp.setWidth 8)) s).conclude fun rsp t =>
      (temp s.params.tempBelowBias (rsp.extractLsb' 5 16)).elim (.refused .tempBelowBias)
        fun q => finish (.temperature q) t := by
  simp only [← decReg_eq_slice]
  refine ((needSession_opened hs).trans (readRegister_conclude_eq _ s _)).trans ?_
  congr 1
  funext rsp t
  cases temp s.params.tempBelowBias (decReg rsp) <;> rfl

theorem exec_rdtemp_of_completes {x y : Quad} (hs : s.session = .opened cfg) (h0 : s.busAnswer 0 = .completes x)
    (h1 : s.busAnswer 1 = .completes y) :
    exec .rdtemp s = (temp s.params.tempBelowBias ((frame x).extractLsb' 5 16)).elim (.refused .tempBelowBias)
      fun q => .next (s.afterExchange (encRead (s.params.addrTemp.setWidth 8)) x y (.temperature q)) := by
  rw [exec_rdtemp_opened hs, exchange_of_completes h0 h1]
  rfl

/-- Settles O30: once the exchange completes, TEMP of its reply decides between a result and the refusal. -/
theorem rdtempReadsTheTemperature : Obligations.RdtempReadsTheTemperature := by
  unfold Obligations.RdtempReadsTheTemperature
  intro s
  refine ⟨?completes, ?firstFails, ?secondFails, ?closed⟩
  case completes =>
    intro cfg x y hs h0 h1
    rw [exec_rdtemp_of_completes hs h0 h1]
    refine ⟨?linear, ?wrap32, ?unset⟩
    case linear =>
      rintro (habove | hmode)
      · rw [temp_at_or_above_bias habove, Option.elim_some]
      · rw [hmode, temp_signed, Option.elim_some]
    case wrap32 =>
      intro hbelow hmode
      rw [hmode, temp_wrap32_below_bias hbelow, Option.elim_some]
    case unset =>
      intro hbelow hmode
      rw [hmode, temp_unset_below_bias hbelow, Option.elim_none]
  case firstFails =>
    intro cfg l hs h0
    rw [exec_rdtemp_opened hs, exchange_conclude_of_first_fails h0]
  case secondFails =>
    intro cfg x l hs h0 h1
    rw [exec_rdtemp_opened hs, exchange_conclude_of_second_fails h0 h1]
  case closed =>
    intro hs
    exact needSession_closed hs

end Sys2Proof.Machine
end

section
/-! The classifier against the encoders (30_encoding.md R56, R57, R61). A command's frame carries the command's fields
and the right parity bit, so it is classified as that command; and a word is determined by its fields and that bit, so
it is the frame of the command it is classified as. -/

namespace Sys2Proof.Machine

variable {p : Params} {w f g : Frame} {c : Command}

/-! ### A word is its fields -/

/-- Bit 0 of an accepted word is the parity bit of its other bits, so these determine the word. -/
theorem eq_of_parityBit_eq (hf : f.getLsbD 0 = parityBit f) (hg : g.getLsbD 0 = parityBit g)
    (h : f.extractLsb' 1 31 = g.extractLsb' 1 31) : f = g := by
  have hzero : f.getLsbD 0 = g.getLsbD 0 := by rw [hf, hg, parityBit, parityBit, h]
  apply BitVec.eq_of_getLsbD_eq
  intro k hk
  cases k with
  | zero => exact hzero
  | succ k =>
    have hbit := congrArg (·.getLsbD k) h
    simpa only [BitVec.getLsbD_extractLsb', show k < 31 by omega, decide_true, Bool.true_and, Nat.add_comm 1 k]
      using hbit

/-- R46: bits 31 down to 1 are the three fields. -/
theorem aboveBitZero_eq_fields (f : Frame) :
    f.extractLsb' 1 31 = opcField f ++ (addrField f ++ dataField f) := by
  apply BitVec.eq_of_getLsbD_eq
  intro k hk
  simp only [opcField, addrField, dataField, BitVec.getLsbD_append, BitVec.getLsbD_extractLsb']
  obtain hdata | haddr | hopc : k < 16 ∨ (16 ≤ k ∧ k < 23) ∨ 23 ≤ k := by omega
  · simp [hdata, hk, show k < 23 by omega]
  · simp [haddr, hk, show ¬ k < 16 by omega, show k - 16 < 7 by omega, show 17 + (k - 16) = 1 + k by omega]
  · simp [hk, show ¬ k < 23 by omega, show k - 23 < 8 by omega, show 24 + (k - 23) = 1 + k by omega]

/-- Format CS has no address and no value: where they would stand, 23 bits are zero (R49). -/
theorem reserved_eq_fields (f : Frame) : f.extractLsb' 1 23 = addrField f ++ dataField f := by
  apply BitVec.eq_of_getLsbD_eq
  intro k hk
  simp only [addrField, dataField, BitVec.getLsbD_append, BitVec.getLsbD_extractLsb']
  obtain hdata | haddr : k < 16 ∨ 16 ≤ k := by omega
  · simp [hdata, hk]
  · simp [hk, show ¬ k < 16 by omega, show k - 16 < 7 by omega, show 17 + (k - 16) = 1 + k by omega]

/-! ### Addresses -/

theorem addrInput_extractLsb' {a : Byte} (h : withinContract a = true) : addrInput (a.extractLsb' 0 7) = a := by
  have ha : a.toNat ≤ 0x7F := of_decide_eq_true h
  apply BitVec.eq_of_toNat_eq
  simp only [addrInput, BitVec.toNat_setWidth, BitVec.extractLsb'_toNat, Nat.shiftRight_zero]
  omega

theorem extractLsb'_addrInput (a : BitVec 7) : (addrInput a).extractLsb' 0 7 = a := by
  apply BitVec.eq_of_toNat_eq
  simp only [addrInput, BitVec.toNat_setWidth, BitVec.extractLsb'_toNat, Nat.shiftRight_zero]
  omega

/-! ### The opcode bytes are different -/

/-- Bits 7 and 6 of `SD_BYTE0` are clear (R50), and each of the other two opcodes has one of them set. -/
theorem sdByte0_toNat_lt (p : Params) : (sdByte0 p).toNat < 0x40 := by
  rw [sdByte0, BitVec.toNat_setWidth]
  omega

theorem opcRead_ne_opcWrite : opcRead ≠ opcWrite := by decide

theorem sdByte0_ne_opcRead (p : Params) : sdByte0 p ≠ opcRead := by
  intro h
  have hlt := sdByte0_toNat_lt p
  rw [h] at hlt
  exact absurd hlt (by decide)

theorem sdByte0_ne_opcWrite (p : Params) : sdByte0 p ≠ opcWrite := by
  intro h
  have hlt := sdByte0_toNat_lt p
  rw [h] at hlt
  exact absurd hlt (by decide)

/-! ### What the classifier accepts -/

/-- A word is accepted as a command when it has the command's shape and its own parity bit. -/
theorem classify_eq_ok_iff : classify p w = .ok c ↔ commandShape p w = some c ∧ w.getLsbD 0 = parityBit w := by
  unfold classify
  cases commandShape p w with
  | none => simp
  | some d => by_cases hpar : w.getLsbD 0 = parityBit w <;> simp [-BitVec.getLsbD_eq_getElem, hpar]

/-- The three shapes of R56, the fields of each read off the word. -/
theorem commandShape_eq_some (h : commandShape p w = some c) :
    (c = .read (addrField w) ∧ opcField w = opcRead ∧ dataField w = 0#16) ∨
    (c = .write (addrField w) (dataField w) ∧ opcField w = opcWrite) ∨
    (c = .sensorData ∧ opcField w = sdByte0 p ∧ w.extractLsb' 1 23 = 0#23) := by
  unfold commandShape at h
  split_ifs at h with hread hwrite hsensor
  · exact .inl ⟨(Option.some.inj h).symm, hread⟩
  · exact .inr (.inl ⟨(Option.some.inj h).symm, hwrite⟩)
  · exact .inr (.inr ⟨(Option.some.inj h).symm, hsensor⟩)

theorem commandShape_of_read (hopc : opcField w = opcRead) (hdata : dataField w = 0#16) :
    commandShape p w = some (.read (addrField w)) :=
  if_pos ⟨hopc, hdata⟩

theorem commandShape_of_write (hopc : opcField w = opcWrite) :
    commandShape p w = some (.write (addrField w) (dataField w)) := by
  have hread : ¬ (opcField w = opcRead ∧ dataField w = 0#16) :=
    fun h => opcRead_ne_opcWrite (h.1.symm.trans hopc)
  rw [commandShape, if_neg hread, if_pos hopc]

theorem commandShape_of_sensorData (hopc : opcField w = sdByte0 p) (hzero : w.extractLsb' 1 23 = 0#23) :
    commandShape p w = some .sensorData := by
  have hread : ¬ (opcField w = opcRead ∧ dataField w = 0#16) :=
    fun h => sdByte0_ne_opcRead p (hopc.symm.trans h.1)
  have hwrite : ¬ opcField w = opcWrite := fun h => sdByte0_ne_opcWrite p (hopc.symm.trans h)
  rw [commandShape, if_neg hread, if_neg hwrite, if_pos ⟨hopc, hzero⟩]

/-! ### Classifying the encoders' frames -/

theorem classify_encRead {a : Byte} (h : withinContract a = true) :
    classify p (encRead a) = .ok (.read (a.extractLsb' 0 7)) := by
  refine classify_eq_ok_iff.mpr ⟨?shape, ?parity⟩
  case shape => rw [commandShape_of_read (opcField_encRead h) (dataField_encRead h), addrField_encRead]
  case parity => rw [encRead_bit_zero, parityBit_eq]

theorem classify_encWrite {a : Byte} (h : withinContract a = true) (v : RegValue) :
    classify p (encWrite a v) = .ok (.write (a.extractLsb' 0 7) v) := by
  refine classify_eq_ok_iff.mpr ⟨?shape, ?parity⟩
  case shape => rw [commandShape_of_write (opcField_encWrite h v), addrField_encWrite, dataField_encWrite]
  case parity => rw [encWrite_bit_zero, parityBit_eq]

theorem classify_encSensor (p : Params) : classify p (encSensor p) = .ok .sensorData := by
  refine classify_eq_ok_iff.mpr ⟨?shape, ?parity⟩
  case shape => exact commandShape_of_sensorData (opcField_encSensor p) (encSensor_reserved p)
  case parity => rw [encSensor_bit_zero, parityBit_eq]

/-- A pseudo-operation's frame is RDREG's of the parameter's address (R61). -/
theorem classify_encRead_addrInput (p : Params) (a : BitVec 7) :
    classify p (encRead (addrInput a)) = .ok (.read a) := by
  rw [classify_encRead (addrInput_within a), extractLsb'_addrInput]

/-- Every command's own frame is classified as that command. -/
theorem classify_encode_toInstr (p : Params) (c : Command) : classify p (encode p c.toInstr) = .ok c := by
  cases c with
  | read a => exact classify_encRead_addrInput p a
  | write a v =>
    rw [Command.toInstr, encode, classify_encWrite (addrInput_within a), extractLsb'_addrInput]
  | sensorData => exact classify_encSensor p

/-- Bits 31 down to 1 of a command's frame (R47 to R49). -/
def commandFields (p : Params) : Command → BitVec 31
  | .read a => opcRead ++ (a ++ 0#16)
  | .write a v => opcWrite ++ (a ++ v)
  | .sensorData => sdByte0 p ++ 0#23

theorem aboveBitZero_of_commandShape (h : commandShape p w = some c) : w.extractLsb' 1 31 = commandFields p c := by
  rw [aboveBitZero_eq_fields]
  obtain ⟨rfl, hopc, hdata⟩ | ⟨rfl, hopc⟩ | ⟨rfl, hopc, hzero⟩ := commandShape_eq_some h
  · rw [commandFields, hopc, hdata]
  · rw [commandFields, hopc]
  · rw [commandFields, hopc, ← hzero, reserved_eq_fields]

/-- No two words are classified as one command, so an accepted word is the frame of its command. -/
theorem encode_toInstr_of_classify (h : classify p w = .ok c) : encode p c.toInstr = w := by
  obtain ⟨hshape, hpar⟩ := classify_eq_ok_iff.mp h
  obtain ⟨hshape', hpar'⟩ := classify_eq_ok_iff.mp (classify_encode_toInstr p c)
  exact eq_of_parityBit_eq hpar' hpar
    ((aboveBitZero_of_commandShape hshape').trans (aboveBitZero_of_commandShape hshape).symm)

theorem toInstr_wellFormed (c : Command) : c.toInstr.wellFormed = true := by
  cases c with
  | read a => exact addrInput_within a
  | write a v => exact addrInput_within a
  | sensorData => rfl

theorem toInstr_row (c : Command) :
    c.toInstr.row = .rdreg ∨ c.toInstr.row = .wrreg ∨ c.toInstr.row = .rdsens := by
  cases c <;> simp [Command.toInstr, Instr.row]

theorem decodeWord_of_classify (h : classify p w = .ok c) : decodeWord p w = .ok c.toInstr := by
  rw [decodeWord, h]

theorem decodeWord_eq_ok {i : Instr} (h : decodeWord p w = .ok i) :
    ∃ c, classify p w = .ok c ∧ i = c.toInstr := by
  cases hc : classify p w with
  | ok c =>
    rw [decodeWord_of_classify hc] at h
    injection h with h
    exact ⟨c, rfl, h.symm⟩
  | error e =>
    rw [decodeWord, hc] at h
    cases h

/-! ### The statements -/

/-- Settles O16: a word determines its command, and by `encode_toInstr_of_classify` the command the word. -/
theorem acceptedWordsAreEncoded : Obligations.AcceptedWordsAreEncoded := by
  unfold Obligations.AcceptedWordsAreEncoded
  intro p w i h
  obtain ⟨c, hc, rfl⟩ := decodeWord_eq_ok h
  exact ⟨toInstr_wellFormed c, encode_toInstr_of_classify hc, toInstr_row c⟩

theorem decodePseudo_of_classify {a : BitVec 7} (i : Instr) (h : classify p w = .ok (.read a)) :
    decodePseudo p a i w = .ok i := by
  simp only [decodePseudo, h, if_true]

/-- Settles O14, row by row: a core operation from its command, a pseudo-operation from RDREG's command of its own
address, a response from any word. -/
theorem decodeAsInvertsEncode : Obligations.DecodeAsInvertsEncode := by
  unfold Obligations.DecodeAsInvertsEncode
  intro p i cfg hwf hcfg
  cases i with
  | rdreg a =>
    have hclass : classify p (encode p (.rdreg a)) = .ok (.read (a.extractLsb' 0 7)) := classify_encRead hwf
    simp only [decodeAs, Instr.row, hclass, addrInput_extractLsb' hwf]
  | wrreg a v =>
    have hclass : classify p (encode p (.wrreg a v)) = .ok (.write (a.extractLsb' 0 7) v) := classify_encWrite hwf v
    simp only [decodeAs, Instr.row, hclass, addrInput_extractLsb' hwf]
  | rdsens =>
    have hclass : classify p (encode p .rdsens) = .ok .sensorData := classify_encSensor p
    simp only [decodeAs, Instr.row, hclass]
  | init c =>
    rw [hcfg c rfl]
    exact decodePseudo_of_classify _ (classify_encRead_addrInput p p.addrPid)
  | rdrate => exact decodePseudo_of_classify _ (classify_encRead_addrInput p p.addrRate)
  | rdtemp => exact decodePseudo_of_classify _ (classify_encRead_addrInput p p.addrTemp)
  | rspReg f => rfl
  | rspSensor f => rfl

/-- Settles O15: the classifier sees the command alone, and a pseudo-operation's command is a READ. -/
theorem commandFramesAreClassified : Obligations.CommandFramesAreClassified := by
  unfold Obligations.CommandFramesAreClassified
  intro p a v cfg ha
  have hc : withinContract a = true := decide_eq_true ha
  have hpseudo (b : BitVec 7) : decodeWord p (encRead (addrInput b)) = .ok (.rdreg (b.setWidth 8)) :=
    decodeWord_of_classify (classify_encRead_addrInput p b)
  refine ⟨?rdreg, ?wrreg, decodeWord_of_classify (classify_encSensor p), hpseudo p.addrPid, hpseudo p.addrRate,
    hpseudo p.addrTemp⟩
  case rdreg =>
    rw [encode, decodeWord_of_classify (classify_encRead hc), Command.toInstr, addrInput_extractLsb' hc]
  case wrreg =>
    rw [encode, decodeWord_of_classify (classify_encWrite hc v), Command.toInstr, addrInput_extractLsb' hc]

/-- Settles O7: equal frames have equal fields, and frames of different encoders have different opcode bytes. -/
theorem encodersAreInjectiveAndDisjoint : Obligations.EncodersAreInjectiveAndDisjoint := by
  unfold Obligations.EncodersAreInjectiveAndDisjoint
  intro p a b v w ha hb
  have hca : withinContract a = true := decide_eq_true ha
  have hcb : withinContract b = true := decide_eq_true hb
  have hreadAddr {a : Byte} (h : withinContract a = true) : (addrField (encRead a)).setWidth 8 = a := by
    rw [addrField_encRead]
    exact addrInput_extractLsb' h
  have hwriteAddr {a : Byte} (h : withinContract a = true) (v : RegValue) :
      (addrField (encWrite a v)).setWidth 8 = a := by
    rw [addrField_encWrite]
    exact addrInput_extractLsb' h
  refine ⟨?readInjective, ?writeInjective, ?readWrite, ?readSensor, ?writeSensor, hreadAddr hca, hwriteAddr hca v,
    dataField_encWrite a v⟩
  case readInjective =>
    intro h
    rw [← hreadAddr hca, h, hreadAddr hcb]
  case writeInjective =>
    intro h
    constructor
    · rw [← hwriteAddr hca v, h, hwriteAddr hcb w]
    · rw [← dataField_encWrite a v, h, dataField_encWrite]
  case readWrite =>
    intro h
    have hopc := congrArg opcField h
    rw [opcField_encRead hca, opcField_encWrite hcb] at hopc
    exact opcRead_ne_opcWrite hopc
  case readSensor =>
    intro h
    have hopc := congrArg opcField h
    rw [opcField_encRead hca, opcField_encSensor] at hopc
    exact sdByte0_ne_opcRead p hopc.symm
  case writeSensor =>
    intro h
    have hopc := congrArg opcField h
    rw [opcField_encWrite hca, opcField_encSensor] at hopc
    exact sdByte0_ne_opcWrite p hopc.symm

/-- Settles O17, one word at a time; the parameters are the defaults of R5. -/
theorem writtenOutWordsDecode : Obligations.WrittenOutWordsDecode := by
  unfold Obligations.WrittenOutWordsDecode
  exact ⟨by decide, by decide, by decide, by decide, by decide, by decide, by decide⟩

end Sys2Proof.Machine
end

section
/-! Single functions of the codec and of the conversions: PARITY on a word with bit 0 set (92_eei_decisions.md D26),
DEC_REG as a slice (41_decode.md R82, R86, R87), bytes and frames (20_memory.md R26), RATE as a rational
(43_conversions.md section 1) and the identification test (42_exchange_and_operations.md R98). -/

namespace Sys2Proof.Machine

/-- Settles O2: the OR leaves bits 31 down to 1 alone and cannot clear bit 0. -/
theorem parityNeverClearsBitZero : Obligations.ParityNeverClearsBitZero := by
  unfold Obligations.ParityNeverClearsBitZero
  intro f hset
  apply BitVec.eq_of_getLsbD_eq
  intro k _
  cases k with
  | zero => rw [parity_bit_zero, hset, Bool.true_or]
  | succ k => exact parity_getLsbD f (Nat.succ_ne_zero k)

/-! ### DEC_REG -/

/-- Settles O9: the slice of bits 20 to 5 reads no other bit. -/
theorem decRegIgnoresTheOtherBits : Obligations.DecRegIgnoresTheOtherBits := by
  unfold Obligations.DecRegIgnoresTheOtherBits
  intro f g h
  rw [decReg_eq_slice, decReg_eq_slice]
  apply BitVec.eq_of_getLsbD_eq
  intro k hk
  rw [BitVec.getLsbD_extractLsb', BitVec.getLsbD_extractLsb', h (5 + k) (by omega) (by omega)]

/-- The filler's mask is clear at bits 20 to 5 (R86). -/
theorem fillerMask_extractLsb' : (0xFFE0001F#32).extractLsb' 5 16 = 0#16 := by decide

/-- Settles O10: at bits 20 to 5 the embedding has nothing of the filler and all of the value. -/
theorem decRegInvertsEmbed : Obligations.DecRegInvertsEmbed := by
  unfold Obligations.DecRegInvertsEmbed
  intro v x
  have hvalue : (v.setWidth 32 <<< 5).extractLsb' 5 16 = v := by
    apply BitVec.eq_of_getLsbD_eq
    intro k hk
    simp [-BitVec.getLsbD_eq_getElem, hk, show k < 32 by omega, show 5 + k < 32 by omega]
  rw [decReg_eq_slice, embed, BitVec.extractLsb'_or, BitVec.extractLsb'_and, fillerMask_extractLsb',
    BitVec.and_zero, BitVec.zero_or, hvalue]

/-- Bits 20 to 5 of a command frame are the low four bits of its address and the top twelve of its value field. -/
theorem slice_eq_fields (f : Frame) :
    f.extractLsb' 5 16 = (addrField f).extractLsb' 0 4 ++ (dataField f).extractLsb' 4 12 := by
  apply BitVec.eq_of_getLsbD_eq
  intro k hk
  simp only [addrField, dataField, BitVec.getLsbD_append, BitVec.getLsbD_extractLsb']
  obtain hdata | haddr : k < 12 ∨ 12 ≤ k := by omega
  · simp [hdata, hk, show 4 + k < 16 by omega, show 1 + (4 + k) = 5 + k by omega]
  · simp [hk, show ¬ k < 12 by omega, show k - 12 < 4 by omega, show k - 12 < 7 by omega,
      show 17 + (k - 12) = 5 + k by omega]

/-- Settles O11, from the fields of a write frame. -/
theorem decRegOfAWriteFrame : Obligations.DecRegOfAWriteFrame := by
  unfold Obligations.DecRegOfAWriteFrame
  intro a v _
  have hlow : (a.extractLsb' 0 7).extractLsb' 0 4 = a.extractLsb' 0 4 := by
    apply BitVec.eq_of_getLsbD_eq
    intro k hk
    simp [hk]
  rw [decReg_eq_slice, slice_eq_fields, addrField_encWrite, dataField_encWrite, hlow]

/-! ### Bytes and frames -/

theorem extractLsb'_frame {q : Quad} {b : Byte} {n : Nat} (h : ∀ k < 8, (frame q).getLsbD (n + k) = b.getLsbD k) :
    (frame q).extractLsb' n 8 = b := by
  apply BitVec.eq_of_getLsbD_eq
  intro k hk
  rw [BitVec.getLsbD_extractLsb', h k hk, decide_eq_true hk, Bool.true_and]

/-- Putting four bytes together loses none of them (R26): each is found again at its place. -/
theorem bytes_frame (q : Quad) : bytes (frame q) = q := by
  have h0 : (frame q).extractLsb' 24 8 = q.b0 := extractLsb'_frame fun k _ => by
    rw [frame_getLsbD, if_neg (by omega), if_neg (by omega), if_neg (by omega), Nat.add_sub_cancel_left]
  have h1 : (frame q).extractLsb' 16 8 = q.b1 := extractLsb'_frame fun k hk => by
    rw [frame_getLsbD, if_neg (by omega), if_neg (by omega), if_pos (by omega), Nat.add_sub_cancel_left]
  have h2 : (frame q).extractLsb' 8 8 = q.b2 := extractLsb'_frame fun k hk => by
    rw [frame_getLsbD, if_neg (by omega), if_pos (by omega), Nat.add_sub_cancel_left]
  have h3 : (frame q).extractLsb' 0 8 = q.b3 := extractLsb'_frame fun k hk => by
    rw [frame_getLsbD, if_pos (by omega), Nat.zero_add]
  rw [bytes, h0, h1, h2, h3]

/-- Settles O13. -/
theorem framesAndBytesAreInverse : Obligations.FramesAndBytesAreInverse := by
  unfold Obligations.FramesAndBytesAreInverse
  exact ⟨frame_bytes, bytes_frame⟩

/-! ### The conversions and the identification test -/

/-- Settles O19, from the two's-complement reading of the quotient itself. -/
theorem rateIsTwosComplementOverEighty : Obligations.RateIsTwosComplementOverEighty := by
  unfold Obligations.RateIsTwosComplementOverEighty
  intro raw
  rw [rate_eq_toInt, Ratio.toRat]
  norm_num

/-- The upper byte of a 16-bit value is the value divided by 256. -/
theorem identified_iff_toNat_div (id : RegValue) : identified id = true ↔ id.toNat / 256 = 0x52 := by
  have hbyte : (id.extractLsb' 8 8).toNat = id.toNat / 256 := by
    rw [BitVec.extractLsb'_toNat, Nat.shiftRight_eq_div_pow]
    omega
  rw [identified, beq_iff_eq, ← BitVec.toNat_inj, hbyte]
  rfl

/-- Settles O21. -/
theorem identificationComparesTheUpperByte : Obligations.IdentificationComparesTheUpperByte := by
  unfold Obligations.IdentificationComparesTheUpperByte
  refine ⟨fun id => ?_, identified_decReg_iff⟩
  rw [identified_iff_toNat_div]
  omega

end Sys2Proof.Machine
end

section
/-! How an operation past its checks ends, as a function of the answers to come. `State.ending` says which of five ways
it is and reads only the parameters and those answers; `Ending.after` is the state each way leaves. One equation
(`exec_admitted`) ties both to `exec`, so that a statement about every operation is one about five states. -/

namespace Sys2Proof.Machine

/-! ### The ways to end -/

/-- How the bus sequence of an operation ends in a next state (R90, R95, R102, R141). -/
inductive Ending where
  /-- both transactions complete, the second receives `x`, and the operation returns `r` -/
  | exchanges (x y : Quad) (r : Result)
  /-- the one transaction of WRREG completes -/
  | writes (y : Quad)
  /-- the first transaction fails -/
  | firstFails (l : Quad)
  /-- the second transaction fails -/
  | secondFails (l : Quad)
  /-- RESET strikes the `n`-th transaction -/
  | struck (n : Nat) (l : Quad)

/-- The state an operation that sent `f` from `u` leaves. -/
def Ending.after (e : Ending) (u : State) (f : Frame) : State :=
  match e with
  | .exchanges x y r => u.afterExchange f x y r
  | .writes y => u.afterWrite f y
  | .firstFails l => u.afterFirstFailure f l
  | .secondFails l => u.afterSecondFailure f l
  | .struck n l => u.struck n l

/-- What the operation returns to the host: nothing at all where RESET struck it (R141). -/
def Ending.results : Ending → List Result
  | .exchanges _ _ r => [r]
  | .writes _ => [.nothing]
  | .firstFails _ => [.status .busTransferError]
  | .secondFails _ => [.status .busTransferError]
  | .struck _ _ => []

/-- What the operation that sent `f` adds to the bus log, the reply `q` being pending before it (R35, R36). -/
def Ending.entries (e : Ending) (f : Frame) (q : Quad) : List Transaction :=
  match e with
  | .exchanges x _ _ => [⟨bytes f, some q⟩, ⟨bytes f, some x⟩]
  | .writes _ => [⟨bytes f, some q⟩]
  | .firstFails _ => [⟨bytes f, none⟩]
  | .secondFails _ => [⟨bytes f, some q⟩, ⟨bytes f, none⟩]
  | .struck _ _ => []

/-- RESET strikes the operation. -/
def Ending.IsStruck : Ending → Prop
  | .struck _ _ => True
  | _ => False

/-! ### What each leaves -/

section
variable (e : Ending) (u : State) (f : Frame)

@[simp] theorem Ending.after_params : (e.after u f).params = u.params := by cases e <;> rfl

@[simp] theorem Ending.after_program : (e.after u f).program = u.program := by cases e <;> rfl

@[simp] theorem Ending.after_returned : (e.after u f).returned = u.returned ++ e.results := by
  cases e with
  | struck n l => exact (List.append_nil _).symm
  | _ => rfl

/-- Whatever an operation wrote to PHASE and the transient values is gone at its end (R17, R130, R140). -/
theorem Ending.after_quiet : (e.after u f).Quiet := by cases e <;> exact ⟨rfl, rfl, rfl, rfl⟩

/-- RESET closes the session and empties the log; nothing else that ends a bus sequence touches the session (R140). -/
theorem Ending.after_session_log :
    (e.IsStruck ∧ (e.after u f).session = .closed ∧ (e.after u f).log = []) ∨
      (¬ e.IsStruck ∧ (e.after u f).session = u.session ∧
        (e.after u f).log = u.log ++ e.entries f u.chipPending) := by
  cases e with
  | struck n l => exact .inl ⟨trivial, rfl, rfl⟩
  | _ => exact .inr ⟨not_false, rfl, rfl⟩

/-- Every transaction that is logged has been answered. -/
theorem Ending.entries_length_le (q : Quad) : u.asked + (e.entries f q).length ≤ (e.after u f).asked := by
  cases e with
  | struck n l => exact Nat.le_add_right _ _
  | _ => exact Nat.le_refl _

end

section
variable {e : Ending} {f : Frame} {q : Quad}

/-- An operation sends its own frame and no other. -/
theorem Ending.sent_of_mem_entries {x : Transaction} (h : x ∈ e.entries f q) : x.sent = bytes f := by
  cases e <;> simp only [Ending.entries, List.mem_cons, List.not_mem_nil, or_false] at h
  case exchanges | secondFails => obtain rfl | rfl := h <;> rfl
  case writes | firstFails => rw [h]

theorem Ending.entries_length_le_two (e : Ending) (f : Frame) (q : Quad) : (e.entries f q).length ≤ 2 := by
  cases e <;> simp [Ending.entries]

/-- Unless RESET strikes, an operation returns one result. -/
theorem Ending.results_of_not_isStruck (h : ¬ e.IsStruck) : ∃ r, e.results = [r] := by
  cases e with
  | struck n l => exact absurd trivial h
  | _ => exact ⟨_, rfl⟩

end

/-! ### Which of them it is -/

/-- Applied to the state where there is one, a stop passed on. -/
def mapNext {σ τ : Type} (g : σ → τ) : Host.Outcome σ Fault Refusal → Host.Outcome τ Fault Refusal
  | .next a => .next (g a)
  | .fault r => .fault r
  | .refused r => .refused r

theorem mapNext_eq_next {σ τ : Type} {g : σ → τ} {o : Host.Outcome σ Fault Refusal} {b : τ}
    (h : mapNext g o = .next b) : ∃ a, o = .next a ∧ b = g a := by
  cases o with
  | next a => injection h with h; exact ⟨a, rfl, h.symm⟩
  | fault r => cases h
  | refused r => cases h

/-- The end of two transactions with the answers `a0` and `a1`, where `res` makes a result of the second reply: none
below the temperature's bias with the parameter unset (R115). -/
def exchangeEnding (res : Frame → Option Result) (a0 a1 : BusAnswer) : Host.Outcome Ending Fault Refusal :=
  match a0, a1 with
  | .completes x, .completes y => (res (frame x)).elim (.refused .tempBelowBias) fun r => .next (.exchanges x y r)
  | .completes _, .fails l => .next (.secondFails l)
  | .completes _, .hangs => .fault .busHangs
  | .completes _, .resets l => .next (.struck 2 l)
  | .fails l, _ => .next (.firstFails l)
  | .hangs, _ => .fault .busHangs
  | .resets l, _ => .next (.struck 1 l)

/-- The end of one transaction with the answer `a0`. -/
def writeEnding (a0 : BusAnswer) : Host.Outcome Ending Fault Refusal :=
  match a0 with
  | .completes y => .next (.writes y)
  | .fails l => .next (.firstFails l)
  | .hangs => .fault .busHangs
  | .resets l => .next (.struck 1 l)

/-- The end of the bus sequence of operation `i`. -/
def State.ending (s : State) (i : Instr) : Host.Outcome Ending Fault Refusal :=
  if i.row = .wrreg then writeEnding (s.busAnswer 0)
  else exchangeEnding (replyResult s.params i) (s.busAnswer 0) (s.busAnswer 1)

/-- The checks of R129 let operation `i` on to the bus: INIT with no session, a handle and an open bus, any other within
contract and on a session. The response rows make no transaction. -/
def State.Admits (s : State) : Instr → Prop
  | .init _ => s.session = .closed ∧ s.handleAnswer = ⟨true, true⟩
  | .rspReg _ => False
  | .rspSensor _ => False
  | i => (∃ cfg, s.session = .opened cfg) ∧ i.wellFormed = true

/-! ### The equation -/

section
variable {i : Instr} {s t : State} {cfg : BusCfg}

/-- An operation on one exchange ends as the two answers say. -/
theorem exchange_conclude_ending (f : Frame) (u : State) (res : Frame → Option Result) :
    ((exchange f u).conclude fun g w => (res g).elim (.refused .tempBelowBias) fun r => finish r w) =
      mapNext (fun e => e.after u f) (exchangeEnding res (u.busAnswer 0) (u.busAnswer 1)) := by
  rcases exchange_cases f u with ⟨x, y, h0, h1, h⟩ | ⟨l, h0, h⟩ | ⟨x, l, h0, h1, h⟩ | ⟨h0 | ⟨x, h0, h1⟩, h⟩ |
    ⟨l, h0, h⟩ | ⟨x, l, h0, h1, h⟩
  · rw [h, h0, h1, exchangeEnding, Bus.conclude]
    cases res (frame x) <;> rfl
  · rw [h, h0]; rfl
  · rw [h, h0, h1]; rfl
  · rw [h, h0]; rfl
  · rw [h, h0, h1]; rfl
  · rw [h, h0]; rfl
  · rw [h, h0, h1]; rfl

/-- An operation of one transaction ends as its answer says. -/
theorem busXfer_conclude_ending (f : Frame) (u : State) :
    ((busXfer (bytes f) (u.starts f)).conclude fun _ w => finish .nothing w) =
      mapNext (fun e => e.after u f) (writeEnding (u.busAnswer 0)) := by
  rcases busXfer_cases (bytes f) (u.starts f) with ⟨y, h0, h⟩ | ⟨l, h0, h⟩ | ⟨h0, h⟩ | ⟨l, h0, h⟩ <;>
    (rw [h, ← State.busAnswer_starts u f, h0]; rfl)

/-- Every operation that its checks let on to the bus. -/
theorem exec_admitted (h : s.Admits i) :
    exec i s = mapNext (fun e => e.after (s.base i) (encode s.params i)) (s.ending i) := by
  cases i with
  | rdreg a =>
    obtain ⟨⟨cfg, hs⟩, ha⟩ := h
    exact (exec_rdreg_within hs ha).trans (exchange_conclude_ending _ s (replyResult s.params (.rdreg a)))
  | wrreg a v =>
    obtain ⟨⟨cfg, hs⟩, ha⟩ := h
    exact (exec_wrreg_within hs ha).trans (busXfer_conclude_ending _ s)
  | rdsens =>
    obtain ⟨⟨cfg, hs⟩, _⟩ := h
    exact (exec_rdsens_opened hs).trans (exchange_conclude_ending _ s (replyResult s.params .rdsens))
  | init cfg =>
    obtain ⟨hs, ha⟩ := h
    simp only [exec_init_configured hs ha, ← identified_decReg_iff]
    exact exchange_conclude_ending _ (s.sessionOpened cfg) (replyResult s.params (.init cfg))
  | rdrate =>
    obtain ⟨⟨cfg, hs⟩, _⟩ := h
    simp only [exec_rdrate_opened hs, ← decReg_eq_slice, ← rate_eq_toInt]
    exact exchange_conclude_ending _ s (replyResult s.params .rdrate)
  | rdtemp =>
    obtain ⟨⟨cfg, hs⟩, _⟩ := h
    rw [exec_rdtemp_opened hs]
    refine Eq.trans ?_ (exchange_conclude_ending _ s (replyResult s.params .rdtemp))
    simp only [replyResult, decReg_eq_slice, Option.elim_map]
    rfl
  | rspReg f => exact h.elim
  | rspSensor f => exact h.elim

/-! ### Everything an operation can do -/

/-- The value of a response row (R80, R83). -/
def responseResult : Instr → Option Result
  | .rspReg f => some (.value16 (decReg f))
  | .rspSensor f => some (.value32 (decSensor f))
  | _ => none

/-- Which of INIT's first two steps fails, and with which error (R121, R122, R129). -/
def State.handleError (s : State) : Option Status :=
  if s.handleAnswer.allocated = false then some .allocationFailure
  else if s.handleAnswer.configured = false then some .busInitError
  else none

theorem exec_of_responseResult {r : Result} (h : responseResult i = some r) : exec i s = .next (s.returns r) := by
  cases i with
  | rspReg f | rspSensor f => injection h with h; rw [← h]; rfl
  | _ => cases h

theorem handleAnswer_eq {a b : Bool} (ha : s.handleAnswer.allocated = a) (hb : s.handleAnswer.configured = b) :
    s.handleAnswer = ⟨a, b⟩ := by
  rw [← ha, ← hb]

theorem exec_init_of_handleError {c : Status} (hs : s.session = .closed) (h : s.handleError = some c) :
    exec (.init cfg) s = .next (s.afterFailedInit c) := by
  unfold State.handleError at h
  split_ifs at h with ha hb
  · injection h with h
    rw [exec_init_unallocated hs ha, h]
  · injection h with h
    rw [exec_init_unconfigured hs (handleAnswer_eq (Bool.eq_true_of_not_eq_false ha) hb), h]

theorem handleAnswer_of_handleError (h : s.handleError = none) : s.handleAnswer = ⟨true, true⟩ := by
  unfold State.handleError at h
  split_ifs at h with ha hb
  exact handleAnswer_eq (Bool.eq_true_of_not_eq_false ha) (Bool.eq_true_of_not_eq_false hb)

/-- An operation on a session goes on to the bus within contract and on an open session. -/
theorem admits_of_opened (hs : s.session = .opened cfg) (hwf : i.wellFormed = true) (hinit : i.row ≠ .init)
    (hreg : i.row ≠ .rspReg) (hsensor : i.row ≠ .rspSensor) : s.Admits i := by
  cases i with
  | rdreg | wrreg | rdsens | rdrate | rdtemp => exact ⟨⟨cfg, hs⟩, hwf⟩
  | init => exact absurd rfl hinit
  | rspReg => exact absurd rfl hreg
  | rspSensor => exact absurd rfl hsensor

/-- INIT goes on to the bus exactly from a closed session, any other operation from an open one. -/
theorem row_init_iff_of_admits (h : s.Admits i) : i.row = .init ↔ s.session = .closed := by
  cases i with
  | rdreg | wrreg | rdsens | rdrate | rdtemp => obtain ⟨⟨cfg, hs⟩, _⟩ := h; simp [Instr.row, hs]
  | init => simpa [Instr.row] using h.1
  | rspReg | rspSensor => exact h.elim

theorem eq_init_of_row (h : i.row = .init) : ∃ cfg, i = .init cfg := by
  cases i with
  | init cfg => exact ⟨cfg, rfl⟩
  | _ => cases h

/-- An INIT from a closed session that does not go on to the bus lacks its handle or its open bus (R129). -/
theorem exec_init_next_of_not_admits (hs : s.session = .closed) (hadm : ¬ s.Admits (.init cfg))
    (h : exec (.init cfg) s = .next t) : ∃ c, s.handleError = some c ∧ t = s.afterFailedInit c := by
  cases herr : s.handleError with
  | none => exact absurd ⟨hs, handleAnswer_of_handleError herr⟩ hadm
  | some c =>
    rw [exec_init_of_handleError hs herr] at h
    injection h with h
    exact ⟨c, rfl, h.symm⟩

/-- A response row evaluates its decoder, an INIT ends before the bus is open, or the operation is let on to the bus;
where it answers a next state there is no fourth case. -/
theorem exec_next_inv (h : exec i s = .next t) :
    (∃ r, responseResult i = some r ∧ t = s.returns r) ∨
    (∃ cfg c, i = .init cfg ∧ s.session = .closed ∧ s.handleError = some c ∧ t = s.afterFailedInit c) ∨
    (s.Admits i ∧ ∃ e, s.ending i = .next e ∧ t = e.after (s.base i) (encode s.params i)) := by
  by_cases hadm : s.Admits i
  · exact .inr (.inr ⟨hadm, mapNext_eq_next ((exec_admitted hadm).symm.trans h)⟩)
  have hinit (hs : s.session = .closed) (hrow : i.row = .init) :
      ∃ cfg c, i = .init cfg ∧ s.session = .closed ∧ s.handleError = some c ∧ t = s.afterFailedInit c := by
    obtain ⟨cfg, rfl⟩ := eq_init_of_row hrow
    obtain ⟨c, herr, ht⟩ := exec_init_next_of_not_admits hs hadm h
    exact ⟨cfg, c, rfl, hs, herr, ht⟩
  obtain ⟨f, ⟨rfl, ht⟩ | ⟨rfl, ht⟩⟩ | ⟨_, hrow, hs, _⟩ | ⟨hreg, hsensor, hiff, hwf, _⟩ := exec_next_cases h
  · exact .inl ⟨_, rfl, ht⟩
  · exact .inl ⟨_, rfl, ht⟩
  · exact .inr (.inl (hinit hs hrow))
  · cases hs : s.session with
    | closed => exact .inr (.inl (hs ▸ hinit hs (hiff.mpr hs)))
    | opened cfg =>
      have hrow : i.row ≠ .init := fun hrow => by cases hs.symm.trans (hiff.mp hrow)
      exact absurd (admits_of_opened hs hwf hrow hreg hsensor) hadm

/-- The same read the other way: what is let on to the bus ends as its answers say. -/
theorem exec_of_ending {e : Ending} (h : s.Admits i) (he : s.ending i = .next e) :
    exec i s = .next (e.after (s.base i) (encode s.params i)) := by
  rw [exec_admitted h, he, mapNext]

/-! ### The end, from the answers -/

theorem writeEnding_next {a0 : BusAnswer} {e : Ending} (h : writeEnding a0 = .next e) :
    (∃ y, e = .writes y) ∨ (∃ l, e = .firstFails l) ∨ (∃ l, e = .struck 1 l ∧ a0 = .resets l) := by
  cases a0 <;> cases h
  case completes y => exact .inl ⟨y, rfl⟩
  case fails l => exact .inr (.inl ⟨l, rfl⟩)
  case resets l => exact .inr (.inr ⟨l, rfl, rfl⟩)

theorem exchangeEnding_next {res : Frame → Option Result} {a0 a1 : BusAnswer} {e : Ending}
    (h : exchangeEnding res a0 a1 = .next e) :
    (∃ x y r, e = .exchanges x y r ∧ res (frame x) = some r) ∨ (∃ l, e = .firstFails l) ∨
      (∃ l, e = .secondFails l) ∨ (∃ l, e = .struck 1 l ∧ a0 = .resets l) ∨
      (∃ l, e = .struck 2 l ∧ a1 = .resets l) := by
  cases a0 with
  | fails l => cases h; exact .inr (.inl ⟨l, rfl⟩)
  | hangs => cases h
  | resets l => cases h; exact .inr (.inr (.inr (.inl ⟨l, rfl, rfl⟩)))
  | completes x =>
    cases a1 with
    | fails l => cases h; exact .inr (.inr (.inl ⟨l, rfl⟩))
    | hangs => cases h
    | resets l => cases h; exact .inr (.inr (.inr (.inr ⟨l, rfl, rfl⟩)))
    | completes y =>
      rw [exchangeEnding] at h
      cases hr : res (frame x) <;> rw [hr] at h <;> cases h
      exact .inl ⟨x, y, _, rfl, hr⟩

/-- Each way to end, with the answer or the reply that brings it about. -/
theorem ending_next_cases {e : Ending} (h : s.ending i = .next e) :
    (∃ x y r, e = .exchanges x y r ∧ i.row ≠ .wrreg ∧ replyResult s.params i (frame x) = some r) ∨
    (∃ y, e = .writes y ∧ i.row = .wrreg) ∨
    (∃ l, e = .firstFails l) ∨
    (∃ l, e = .secondFails l ∧ i.row ≠ .wrreg) ∨
    (∃ n k l, e = .struck n l ∧ k < 2 ∧ s.busAnswer k = .resets l) := by
  unfold State.ending at h
  split_ifs at h with hrow
  · obtain ⟨y, rfl⟩ | ⟨l, rfl⟩ | ⟨l, rfl, h0⟩ := writeEnding_next h
    · exact .inr (.inl ⟨y, rfl, hrow⟩)
    · exact .inr (.inr (.inl ⟨l, rfl⟩))
    · exact .inr (.inr (.inr (.inr ⟨1, 0, l, rfl, by decide, h0⟩)))
  · obtain ⟨x, y, r, rfl, hr⟩ | ⟨l, rfl⟩ | ⟨l, rfl⟩ | ⟨l, rfl, h0⟩ | ⟨l, rfl, h1⟩ := exchangeEnding_next h
    · exact .inl ⟨x, y, r, rfl, hrow, hr⟩
    · exact .inr (.inr (.inl ⟨l, rfl⟩))
    · exact .inr (.inr (.inr (.inl ⟨l, rfl, hrow⟩)))
    · exact .inr (.inr (.inr (.inr ⟨1, 0, l, rfl, by decide, h0⟩)))
    · exact .inr (.inr (.inr (.inr ⟨2, 1, l, rfl, by decide, h1⟩)))

theorem not_isStruck_of_undisturbed {e : Ending} (hs : s.Undisturbed) (h : s.ending i = .next e) :
    ¬ e.IsStruck := by
  obtain ⟨x, y, r, rfl, _⟩ | ⟨y, rfl, _⟩ | ⟨l, rfl⟩ | ⟨l, rfl, _⟩ | ⟨n, k, l, rfl, hk, hl⟩ := ending_next_cases h
  case inr.inr.inr.inr => exact absurd hl (hs k l hk)
  all_goals exact not_false

/-- A result is made of the second reply, or is WRREG's empty entry, or says that the bus failed. -/
theorem ending_result_cases {e : Ending} {r : Result} (h : s.ending i = .next e) (hr : r ∈ e.results) :
    (∃ g, replyResult s.params i g = some r) ∨ r = .nothing ∨ r = .status .busTransferError := by
  obtain ⟨x, y, r', rfl, _, hreply⟩ | ⟨y, rfl, _⟩ | ⟨l, rfl⟩ | ⟨l, rfl, _⟩ | ⟨n, k, l, rfl, _⟩ :=
    ending_next_cases h
  · exact .inl ⟨frame x, List.mem_singleton.mp hr ▸ hreply⟩
  · exact .inr (.inl (List.mem_singleton.mp hr))
  · exact .inr (.inr (List.mem_singleton.mp hr))
  · exact .inr (.inr (List.mem_singleton.mp hr))
  · cases hr

section
variable {x l : Quad}

theorem ending_of_first_hangs (h0 : s.busAnswer 0 = .hangs) : s.ending i = .fault .busHangs := by
  rw [State.ending, h0]
  split_ifs <;> rfl

theorem ending_of_second_hangs (h0 : s.busAnswer 0 = .completes x) (h1 : s.busAnswer 1 = .hangs)
    (hrow : i.row ≠ .wrreg) : s.ending i = .fault .busHangs := by
  rw [State.ending, if_neg hrow, h0, h1]
  rfl

theorem ending_of_first_resets (h0 : s.busAnswer 0 = .resets l) : s.ending i = .next (.struck 1 l) := by
  rw [State.ending, h0]
  split_ifs <;> rfl

theorem ending_of_second_resets (h0 : s.busAnswer 0 = .completes x) (h1 : s.busAnswer 1 = .resets l)
    (hrow : i.row ≠ .wrreg) : s.ending i = .next (.struck 2 l) := by
  rw [State.ending, if_neg hrow, h0, h1]
  rfl

end

/-! ### The state the bus sequence runs in -/

theorem base_of_row_ne_init (h : i.row ≠ .init) : s.base i = s := by
  cases i with
  | init => exact absurd rfl h
  | _ => rfl

end

section
variable (s : State) (i : Instr)

@[simp] theorem State.base_params : (s.base i).params = s.params := by cases i <;> rfl
@[simp] theorem State.base_program : (s.base i).program = s.program := by cases i <;> rfl
@[simp] theorem State.base_returned : (s.base i).returned = s.returned := by cases i <;> rfl
@[simp] theorem State.base_log : (s.base i).log = s.log := by cases i <;> rfl
@[simp] theorem State.base_asked : (s.base i).asked = s.asked := by cases i <;> rfl

end

end Sys2Proof.Machine
end

section
/-! Statements about every operation (10_state.md section 6; 42_exchange_and_operations.md; 60_exceptions.md;
70_reset_and_hazards.md), each over the three cases of `exec_next_inv`. -/

namespace Sys2Proof.Machine

variable {i : Instr} {s t u : State} {f : Frame} {e : Ending} {r : Result} {cfg : BusCfg}

/-! ### The response rows -/

/-- Settles O32. -/
theorem responseRowsCompleteAnywhere : Obligations.ResponseRowsCompleteAnywhere := by
  unfold Obligations.ResponseRowsCompleteAnywhere
  intro f s
  rw [← decReg_eq_slice]
  refine ⟨rfl, ?_⟩
  calc exec (.rspSensor f) s
    _ = .next (s.returns (.value32 (decSensor f))) := exec_of_responseResult rfl
    _ = .next (s.returns (.value32 f)) := by rw [decSensor_eq_self]

theorem row_of_responseResult (h : responseResult i = some r) : i.row = .rspReg ∨ i.row = .rspSensor := by
  cases i with
  | rspReg => exact .inl rfl
  | rspSensor => exact .inr rfl
  | _ => cases h

/-- What a response row returns is a value and no error. -/
theorem responseResult_ne_status (c : Status) : responseResult i ≠ some (.status c) := by
  cases i <;> simp [responseResult]

theorem row_of_admits (h : s.Admits i) : i.row ≠ .rspReg ∧ i.row ≠ .rspSensor := by
  cases i with
  | rspReg | rspSensor => exact h.elim
  | _ => exact ⟨nofun, nofun⟩

/-! ### What every operation leaves alone -/

/-- Settles O40. -/
theorem parametersAndProgramAreUntouched : Obligations.ParametersAndProgramAreUntouched := by
  unfold Obligations.ParametersAndProgramAreUntouched
  intro i s t h
  obtain ⟨r, _, rfl⟩ | ⟨cfg, c, rfl, _, _, rfl⟩ | ⟨_, e, _, rfl⟩ := exec_next_inv h
  · exact ⟨rfl, rfl⟩
  · exact ⟨rfl, rfl⟩
  · exact ⟨by rw [Ending.after_params, State.base_params], by rw [Ending.after_program, State.base_program]⟩

/-! ### The session -/

/-- Settles O36: where the bus sequence left the session as it found it, that is as INIT opened it. -/
theorem onlyInitOpensASession : Obligations.OnlyInitOpensASession := by
  unfold Obligations.OnlyInitOpensASession
  intro i s t cfg h hs ht
  obtain ⟨r, _, rfl⟩ | ⟨c, _, rfl, _, _, rfl⟩ | ⟨hadm, e, _, rfl⟩ := exec_next_inv h
  · cases hs.symm.trans ht
  · cases hs.symm.trans ht
  · obtain ⟨c, rfl⟩ := eq_init_of_row ((row_init_iff_of_admits hadm).mpr hs)
    obtain ⟨_, hclosed, _⟩ | ⟨_, hkept, _⟩ := e.after_session_log (s.base (.init c)) (encode s.params (.init c))
    · cases hclosed.symm.trans ht
    · have hcfg : Session.opened c = Session.opened cfg := hkept.symm.trans ht
      injection hcfg with hcfg
      rw [hcfg]

/-- An operation that no RESET strikes leaves an open session as it is (R103). -/
theorem exec_keeps_opened (hs : s.session = .opened cfg) (hund : s.Undisturbed) (h : exec i s = .next t) :
    t.session = .opened cfg := by
  obtain ⟨r, _, rfl⟩ | ⟨c, _, rfl, hclosed, _⟩ | ⟨hadm, e, he, rfl⟩ := exec_next_inv h
  · exact hs
  · cases hs.symm.trans hclosed
  · have hrow : i.row ≠ .init := fun hrow => by cases hs.symm.trans ((row_init_iff_of_admits hadm).mp hrow)
    obtain ⟨hstruck, _⟩ | ⟨_, hkept, _⟩ := e.after_session_log (s.base i) (encode s.params i)
    · exact absurd hstruck (not_isStruck_of_undisturbed hund he)
    · rw [hkept, base_of_row_ne_init hrow, hs]

/-! ### Results -/

/-- Only INIT makes a result code of a reply (R97). -/
theorem row_of_replyResult_status {p : Params} {g : Frame} {c : Status}
    (h : replyResult p i g = some (.status c)) : i.row = .init := by
  cases i with
  | init => rfl
  | rdtemp =>
    obtain ⟨q, _, hq⟩ := Option.map_eq_some_iff.mp h
    cases hq
  | _ => cases h

/-- Settles O37: outside INIT a result that is a code is the one of a failed transaction (R124). -/
theorem errorsAreThoseOfTheTaxonomy : Obligations.ErrorsAreThoseOfTheTaxonomy := by
  unfold Obligations.ErrorsAreThoseOfTheTaxonomy
  intro i s t c h ht
  obtain ⟨r, hr, rfl⟩ | ⟨cfg, _, rfl, _⟩ | ⟨hadm, e, he, rfl⟩ := exec_next_inv h
  · rw [State.returns_returned, List.append_cancel_left_eq] at ht
    rw [List.singleton_inj.mp ht] at hr
    exact absurd hr (responseResult_ne_status c)
  · exact .inl rfl
  · rw [Ending.after_returned, State.base_returned, List.append_cancel_left_eq] at ht
    have hmem : Result.status c ∈ e.results := by rw [ht]; exact List.mem_singleton_self _
    obtain ⟨g, hg⟩ | hnothing | hbus := ending_result_cases he hmem
    · exact .inl (row_of_replyResult_status hg)
    · cases hnothing
    · injection hbus with hbus
      exact .inr ⟨hbus, row_of_admits hadm⟩

/-- Settles O38. -/
theorem eachOperationReturnsOneResult : Obligations.EachOperationReturnsOneResult := by
  unfold Obligations.EachOperationReturnsOneResult
  intro i s t hund h
  obtain ⟨r, _, rfl⟩ | ⟨cfg, c, rfl, _, _, rfl⟩ | ⟨_, e, he, rfl⟩ := exec_next_inv h
  · exact ⟨r, rfl⟩
  · exact ⟨.status c, rfl⟩
  · obtain ⟨r, hr⟩ := Ending.results_of_not_isStruck (not_isStruck_of_undisturbed hund he)
    exact ⟨r, by rw [Ending.after_returned, State.base_returned, hr]⟩

/-! ### The bus log -/

/-- WRREG sends its frame once (R95). -/
theorem entries_length_of_wrreg {q : Quad} (he : s.ending i = .next e) (hrow : i.row = .wrreg)
    (hstruck : ¬ e.IsStruck) : (e.entries f q).length = 1 := by
  obtain ⟨x, y, r, rfl, hne, _⟩ | ⟨y, rfl, _⟩ | ⟨l, rfl⟩ | ⟨l, rfl, hne⟩ | ⟨n, k, l, rfl, _⟩ := ending_next_cases he
  · exact absurd hrow hne
  · rfl
  · rfl
  · exact absurd hrow hne
  · exact absurd trivial hstruck

/-- Settles O39: what is added is `Ending.entries` where the operation reached the bus, and nothing where it did
not. -/
theorem theLogGrowsByTheOperationsFrame : Obligations.TheLogGrowsByTheOperationsFrame := by
  unfold Obligations.TheLogGrowsByTheOperationsFrame
  intro i s t hund h
  obtain ⟨r, hr, rfl⟩ | ⟨cfg, c, rfl, _, _, rfl⟩ | ⟨hadm, e, he, rfl⟩ := exec_next_inv h
  · have hwrreg : i.row ≠ .wrreg := by
      intro hrow
      obtain hresp | hresp := row_of_responseResult hr <;> cases hrow.symm.trans hresp
    exact ⟨[], (List.append_nil _).symm, Nat.zero_le 2, nofun, fun hrow => absurd hrow hwrreg, fun _ => rfl⟩
  · exact ⟨[], (List.append_nil _).symm, Nat.zero_le 2, nofun, nofun, fun _ => rfl⟩
  · have hstruck := not_isStruck_of_undisturbed hund he
    obtain ⟨hreg, hsensor⟩ := row_of_admits hadm
    obtain ⟨hs, _⟩ | ⟨_, _, hlog⟩ := e.after_session_log (s.base i) (encode s.params i)
    · exact absurd hs hstruck
    · rw [State.base_log] at hlog
      exact ⟨_, hlog, e.entries_length_le_two _ _, fun x hx => Ending.sent_of_mem_entries hx,
        fun hrow => entries_length_of_wrreg he hrow hstruck, fun hrow => (hrow.elim hreg hsensor).elim⟩

/-! ### A transaction that never returns, and RESET during one -/

theorem exec_of_ending_fault {fault : Fault} (h : s.Admits i) (he : s.ending i = .fault fault) :
    exec i s = .fault fault := by
  rw [exec_admitted h, he, mapNext]

/-- Settles O42. -/
theorem aHangingBusBlocksForEver : Obligations.AHangingBusBlocksForEver := by
  unfold Obligations.AHangingBusBlocksForEver
  intro s cfg
  constructor
  · intro i hwf hs hinit hreg hsensor
    have hadm := admits_of_opened hs hwf hinit hreg hsensor
    exact ⟨fun h0 => exec_of_ending_fault hadm (ending_of_first_hangs h0),
      fun x h0 h1 hrow => exec_of_ending_fault hadm (ending_of_second_hangs h0 h1 hrow)⟩
  · intro hs ha
    have hadm : s.Admits (.init cfg) := ⟨hs, ha⟩
    exact ⟨fun h0 => exec_of_ending_fault hadm (ending_of_first_hangs h0),
      fun x h0 h1 => exec_of_ending_fault hadm (ending_of_second_hangs h0 h1 nofun)⟩

/-- Settles O44: an operation is struck in the state it sends from, which for INIT is the one with the session opened
and the free inputs used up. -/
theorem resetAbandonsARunningOperation : Obligations.ResetAbandonsARunningOperation := by
  unfold Obligations.ResetAbandonsARunningOperation
  intro s cfg l
  constructor
  · intro i hwf hs hinit hreg hsensor
    have hadm := admits_of_opened hs hwf hinit hreg hsensor
    have hbase := base_of_row_ne_init (s := s) hinit
    constructor
    · intro h0
      rw [exec_of_ending hadm (ending_of_first_resets h0), hbase]
      rfl
    · intro x h0 h1 hrow
      rw [exec_of_ending hadm (ending_of_second_resets h0 h1 hrow), hbase]
      rfl
  · intro hs ha
    have hadm : s.Admits (.init cfg) := ⟨hs, ha⟩
    exact ⟨fun h0 => exec_of_ending hadm (ending_of_first_resets h0),
      fun x h0 h1 => exec_of_ending hadm (ending_of_second_resets h0 h1 nofun)⟩

end Sys2Proof.Machine
end

section
/-! What an operation does not read: the reply pending before it (42_exchange_and_operations.md R91), the configuration
of its session (10_state.md R16) and the results returned before (R13). None of the three is among what `State.ending`
and the checks read, so the operation goes on and ends in the same way; what is left is to compare the states it
leaves. -/

namespace Sys2Proof.Machine

variable {i : Instr} {s : State} {c : BusCfg}

/-! ### The pending reply -/

theorem State.base_withPending (s : State) (i : Instr) (q : Quad) :
    (s.withPending q).base i = (s.base i).withPending q := by
  cases i <;> rfl

/-- The reply pending at the start is seen in the log alone, as what the first transaction received. -/
theorem Ending.after_withPending (e : Ending) (u : State) (f : Frame) (q : Quad) :
    (e.after (u.withPending q) f).returned = (e.after u f).returned ∧
      (e.after (u.withPending q) f).session = (e.after u f).session ∧
      (e.after (u.withPending q) f).log.map (·.sent) = (e.after u f).log.map (·.sent) ∧
      (e.after (u.withPending q) f).program = (e.after u f).program := by
  cases e <;> simp [Ending.after, State.afterExchange, State.afterWrite, State.afterFirstFailure,
    State.afterSecondFailure, State.struck]

/-- Settles O24. -/
theorem theFirstReplyHasNoEffect : Obligations.TheFirstReplyHasNoEffect := by
  unfold Obligations.TheFirstReplyHasNoEffect
  intro i s t q h
  change ∃ t', exec i (s.withPending q) = .next t' ∧ _
  obtain ⟨r, hr, rfl⟩ | ⟨cfg, c, rfl, hs, herr, rfl⟩ | ⟨hadm, e, he, rfl⟩ := exec_next_inv h
  · exact ⟨_, exec_of_responseResult hr, rfl, rfl, rfl, rfl⟩
  · exact ⟨_, exec_init_of_handleError hs herr, rfl, rfl, rfl, rfl⟩
  · have hadm' : (s.withPending q).Admits i := hadm
    have he' : (s.withPending q).ending i = .next e := he
    refine ⟨_, exec_of_ending hadm' he', ?_⟩
    rw [State.base_withPending]
    exact e.after_withPending _ _ q

/-! ### The bus configuration -/

/-- Under another configuration, an open session is as good to every operation that needs one. -/
theorem admits_of_reopened {d : BusCfg} (hs : s.session = .opened c) (h : s.Admits i) :
    ({ s with session := .opened d } : State).Admits i := by
  cases i with
  | rdreg | wrreg | rdsens | rdrate | rdtemp => exact ⟨⟨d, rfl⟩, h.2⟩
  | init => cases hs.symm.trans h.1
  | rspReg | rspSensor => exact h.elim

/-- The configuration is seen in the session alone. -/
theorem Ending.after_reopened (e : Ending) {u : State} (f : Frame) (d : BusCfg) (hu : u.session = .opened c) :
    (e.after { u with session := .opened d } f).returned = (e.after u f).returned ∧
      (e.after { u with session := .opened d } f).log = (e.after u f).log ∧
      ((e.after { u with session := .opened d } f).session = .closed ↔ (e.after u f).session = .closed) := by
  cases e with
  | struck n l => exact ⟨rfl, rfl, Iff.rfl⟩
  | _ => exact ⟨rfl, rfl, nofun, fun h => nomatch hu.symm.trans h⟩

/-- Settles O25: an operation on a session starts from the other session, an INIT opens it. -/
theorem theBusConfigurationHasNoEffect : Obligations.TheBusConfigurationHasNoEffect := by
  unfold Obligations.TheBusConfigurationHasNoEffect
  constructor
  · intro i s t c d hs h
    obtain ⟨r, hr, rfl⟩ | ⟨_, _, rfl, hclosed, _⟩ | ⟨hadm, e, he, rfl⟩ := exec_next_inv h
    · exact ⟨_, exec_of_responseResult hr, rfl, rfl, nofun, fun hclosed => nomatch hs.symm.trans hclosed⟩
    · cases hs.symm.trans hclosed
    · have hrow : i.row ≠ .init := fun hrow => by cases hs.symm.trans ((row_init_iff_of_admits hadm).mp hrow)
      have he' : ({ s with session := .opened d } : State).ending i = .next e := he
      refine ⟨_, exec_of_ending (admits_of_reopened hs hadm) he', ?_⟩
      rw [base_of_row_ne_init hrow, base_of_row_ne_init hrow]
      exact e.after_reopened _ d hs
  · intro s t c d h
    obtain ⟨_, hr, _⟩ | ⟨_, err, _, hs, herr, rfl⟩ | ⟨hadm, e, he, rfl⟩ := exec_next_inv h
    · cases hr
    · exact ⟨_, exec_init_of_handleError hs herr, rfl, rfl, Iff.rfl⟩
    · have hadm' : s.Admits (.init d) := hadm
      have he' : s.ending (.init d) = .next e := he
      exact ⟨_, exec_of_ending hadm' he', e.after_reopened _ d (State.opens_session s.handleAnswered c)⟩

/-! ### Earlier results -/

theorem State.base_with_returned (s : State) (i : Instr) (rs : List Result) :
    ({ s with returned := rs } : State).base i = { s.base i with returned := rs } := by
  cases i <;> rfl

/-- The record of results is appended to and nothing else is done with it. -/
theorem Ending.after_with_returned (e : Ending) (u : State) (f : Frame) (rs : List Result) :
    e.after { u with returned := rs } f = { e.after u f with returned := rs ++ e.results } := by
  cases e with
  | struck n l => simp [Ending.after, State.struck, Ending.results]
  | _ => rfl

/-- Settles O41. -/
theorem resultsAreNeverReadBack : Obligations.ResultsAreNeverReadBack := by
  unfold Obligations.ResultsAreNeverReadBack
  intro i s t rs h
  obtain ⟨r, hr, rfl⟩ | ⟨cfg, c, rfl, hs, herr, rfl⟩ | ⟨hadm, e, he, rfl⟩ := exec_next_inv h
  · exact ⟨[r], rfl, exec_of_responseResult hr⟩
  · exact ⟨[.status c], rfl, exec_init_of_handleError hs herr⟩
  · have hadm' : ({ s with returned := rs } : State).Admits i := hadm
    have he' : ({ s with returned := rs } : State).ending i = .next e := he
    refine ⟨e.results, by rw [Ending.after_returned, State.base_returned], ?_⟩
    rw [exec_of_ending hadm' he', State.base_with_returned, Ending.after_with_returned]

end Sys2Proof.Machine
end

section
/-! The bus and the step: two transactions in a row (20_memory.md section 5), and what becomes of the head of the list
of what the host issues (10_state.md R12; 70_reset_and_hazards.md R140). -/

namespace Sys2Proof.Machine

variable {i : Instr} {s t : State} {rest : List Issued}

/-- Settles O22: the first transaction leaves its reply pending and all later answers one place nearer. -/
theorem repliesLagByOneTransaction : Obligations.RepliesLagByOneTransaction := by
  unfold Obligations.RepliesLagByOneTransaction
  intro tx tx' r r' s h0 h1
  rw [busXfer_of_completes h0, Bus.andThen, busXfer_of_completes (y := r') (by simpa using h1)]
  exact ⟨_, rfl, rfl, List.append_assoc _ _ _⟩

/-! ### The step, by the head of the list -/

theorem step_of_nil (h : s.program = []) : step s = .next s := by
  simp only [step, State.fetch, h]

theorem step_of_operation (h : s.program = .operation i :: rest) :
    step s = exec i { s with program := rest } := by
  simp only [step, State.fetch, h]

theorem step_of_frame {q : Quad} (h : s.program = .frame q :: rest) (hq : decodeBytes s.params q = .ok i) :
    step s = exec i { s with program := rest } := by
  simp only [step, State.fetch, h, hq]

theorem step_of_no_frame {q : Quad} {err : DecodeError} (h : s.program = .frame q :: rest)
    (hq : decodeBytes s.params q = .error err) : step s = .refused (.notAFrame q) := by
  simp only [step, State.fetch, h, hq]

theorem step_of_reset (h : s.program = .reset :: rest) :
    step s = .next ({ s with program := rest } : State).afterReset := by
  simp only [step, State.fetch, h]

/-- Settles O46. -/
theorem aStepRunsTheDecodedOperation : Obligations.AStepRunsTheDecodedOperation := by
  unfold Obligations.AStepRunsTheDecodedOperation
  intro s rest
  exact ⟨fun i => step_of_operation, fun q i => step_of_frame⟩

/-- Settles O47. -/
theorem aStepWaitsOrRefusesWhereNothingRuns : Obligations.AStepWaitsOrRefusesWhereNothingRuns := by
  unfold Obligations.AStepWaitsOrRefusesWhereNothingRuns
  intro s
  exact ⟨step_of_nil, fun q e rest => step_of_no_frame⟩

/-- Settles O43: what `State.afterReset` leaves alone is what the statement does not write. -/
theorem resetEventClosesTheBlock : Obligations.ResetEventClosesTheBlock := by
  unfold Obligations.ResetEventClosesTheBlock
  intro s rest h
  exact step_of_reset h

/-- Everything a step can do when it answers a next state: wait, run an operation, or close the block on RESET. -/
theorem step_next_cases (h : step s = .next t) :
    t = s ∨ (∃ i rest, exec i { s with program := rest } = .next t) ∨
      (∃ rest, s.program = .reset :: rest ∧ t = ({ s with program := rest } : State).afterReset) := by
  obtain ⟨hp, _⟩ | ⟨i, rest, hp, _⟩ | ⟨q, i, rest, hp, hq, _⟩ | ⟨q, rest, hp, hf⟩ | ⟨rest, hp, _⟩ := s.fetch_cases
  · rw [step_of_nil hp] at h
    injection h with h
    exact .inl h.symm
  · exact .inr (.inl ⟨i, rest, (step_of_operation hp).symm.trans h⟩)
  · exact .inr (.inl ⟨i, rest, (step_of_frame hp hq).symm.trans h⟩)
  · rw [step, hf] at h
    cases h
  · rw [step_of_reset hp] at h
    injection h with h
    exact .inr (.inr ⟨rest, hp, h.symm⟩)

/-- Settles O35: no operation that runs to its end closes a session, and the event RESET is ruled out. -/
theorem openSessionStaysOpen : Obligations.OpenSessionStaysOpen := by
  unfold Obligations.OpenSessionStaysOpen
  intro s t cfg hs hund hhead h
  obtain rfl | ⟨i, rest, hexec⟩ | ⟨rest, hp, _⟩ := step_next_cases h
  · exact hs
  · exact exec_keeps_opened (s := { s with program := rest }) hs hund hexec
  · exact absurd (congrArg List.head? hp) hhead

end Sys2Proof.Machine
end

section
/-! The invariant of every state between operations (10_state.md R17; 30_encoding.md R57; 43_conversions.md R110, R115;
20_memory.md section 5): it holds at reset and every step keeps it. -/

namespace Sys2Proof.Machine

variable {i : Instr} {s t u : State} {f : Frame} {e : Ending} {r : Result}

/-! ### Logged frames -/

/-- The frame of an operation that reaches the bus is one the classifier accepts. -/
theorem classify_encode_of_admits (h : s.Admits i) : ∃ c, classify s.params (encode s.params i) = .ok c := by
  cases i with
  | rdreg a => exact ⟨_, classify_encRead h.2⟩
  | wrreg a v => exact ⟨_, classify_encWrite h.2 v⟩
  | rdsens => exact ⟨_, classify_encSensor s.params⟩
  | init | rdrate | rdtemp => exact ⟨_, classify_encRead_addrInput s.params _⟩
  | rspReg | rspSensor => exact h.elim

/-- An accepted word carries its own parity bit, which makes its weight odd (R65, R66). -/
theorem onesInFrame_odd_of_classify {p : Params} {w : Frame} {c : Command} (h : classify p w = .ok c) :
    onesInFrame w % 2 = 1 := by
  rw [onesInFrame_odd_iff, (classify_eq_ok_iff.mp h).2, parityBit_eq]

/-- Settles O50. -/
theorem loggedFramesHaveOddWeight : Obligations.LoggedFramesHaveOddWeight := by
  unfold Obligations.LoggedFramesHaveOddWeight
  intro s x hinv hx
  obtain ⟨c, hc⟩ := hinv.framesOnly x hx
  exact onesInFrame_odd_of_classify hc

/-! ### Allowed results -/

/-- The numerator of a rate is a 16-bit two's-complement number (R110). -/
theorem rate_allowed (raw : RegValue) : (Result.rate (rate raw)).Allowed := by
  rw [rate_eq_toInt]
  exact ⟨rfl, BitVec.le_toInt raw, Int.le_of_lt_add_one BitVec.toInt_lt⟩

theorem temperature_allowed {n : Int} (hlow : -799 ≤ n) (hhigh : n < 4294967296) :
    (Result.temperature ⟨n, 5⟩).Allowed :=
  ⟨rfl, hlow, hhigh⟩

/-- R115's two readings, and no result at all where the parameter is unset. -/
theorem temp_allowed {mode : TempBelowBias} {raw : RegValue} {q : Ratio} (h : temp mode raw = some q) :
    (Result.temperature q).Allowed := by
  have hraw := raw.isLt
  have hlinear : (Result.temperature ⟨(raw.toNat / 64 : Int) - 799, 5⟩).Allowed :=
    temperature_allowed (by omega) (by omega)
  obtain hbelow | habove := Nat.lt_or_ge (raw.toNat / 64) 799
  · cases mode with
    | signed =>
      rw [temp_signed] at h
      exact Option.some.inj h ▸ hlinear
    | wrap32 =>
      rw [temp_wrap32_below_bias hbelow] at h
      exact Option.some.inj h ▸ temperature_allowed (by omega) (by omega)
    | unset =>
      rw [temp_unset_below_bias hbelow] at h
      cases h
  · rw [temp_at_or_above_bias habove] at h
    exact Option.some.inj h ▸ hlinear

theorem replyResult_allowed {p : Params} {g : Frame} (h : replyResult p i g = some r) : r.Allowed := by
  cases i with
  | rdreg | rdsens | init => cases h; trivial
  | rdrate => cases h; exact rate_allowed _
  | rdtemp =>
    obtain ⟨q, hq, rfl⟩ := Option.map_eq_some_iff.mp h
    exact temp_allowed hq
  | wrreg | rspReg | rspSensor => cases h

theorem ending_results_allowed (he : s.ending i = .next e) (hr : r ∈ e.results) : r.Allowed := by
  obtain ⟨g, hg⟩ | rfl | rfl := ending_result_cases he hr
  · exact replyResult_allowed hg
  · trivial
  · trivial

theorem responseResult_allowed (h : responseResult i = some r) : r.Allowed := by
  cases i with
  | rspReg | rspSensor => cases h; trivial
  | _ => cases h

/-! ### What keeps the invariant -/

theorem returnsAllowed_append {rs : List Result} (hs : s.ReturnsAllowed) (hrs : ∀ r ∈ rs, r.Allowed)
    (ht : t.returned = s.returned ++ rs) : t.ReturnsAllowed := by
  intro r hr
  rw [ht, List.mem_append] at hr
  exact hr.elim (hs r) (hrs r)

/-- A response row leaves the block as it was. -/
theorem inv_returns (h : s.Inv) (hr : r.Allowed) : (s.returns r).Inv where
  quiet := h.quiet
  framesOnly := h.framesOnly
  allowed := returnsAllowed_append h.allowed (by simpa using hr) rfl
  logAnswered := h.logAnswered

theorem inv_afterFailedInit (h : s.Inv) (c : Status) : (s.afterFailedInit c).Inv where
  quiet := ⟨rfl, rfl, rfl, rfl⟩
  framesOnly := h.framesOnly
  allowed := returnsAllowed_append h.allowed (rs := [.status c]) (by simp [Result.Allowed]) rfl
  logAnswered := h.logAnswered

/-- RESET empties the log and returns nothing (R140). -/
theorem inv_afterReset (h : s.ReturnsAllowed) : s.afterReset.Inv where
  quiet := ⟨rfl, rfl, rfl, rfl⟩
  framesOnly := nofun
  allowed := h
  logAnswered := Nat.zero_le _

/-- The log after a bus sequence is empty or longer by entries that sent `f`. -/
theorem sendsOnlyFrames_after (h : u.SendsOnlyFrames) (hf : ∃ c, classify u.params f = .ok c) :
    (e.after u f).SendsOnlyFrames := by
  intro x hx
  rw [Ending.after_params]
  obtain ⟨_, _, hlog⟩ | ⟨_, _, hlog⟩ := e.after_session_log u f <;> rw [hlog] at hx
  · cases hx
  · obtain hold | hnew := List.mem_append.mp hx
    · exact h x hold
    · rwa [Ending.sent_of_mem_entries hnew, frame_bytes]

theorem logAnswered_after (h : u.log.length ≤ u.asked) : (e.after u f).log.length ≤ (e.after u f).asked := by
  obtain ⟨_, _, hlog⟩ | ⟨_, _, hlog⟩ := e.after_session_log u f <;> rw [hlog]
  · exact Nat.zero_le _
  · calc (u.log ++ e.entries f u.chipPending).length
      _ = u.log.length + (e.entries f u.chipPending).length := List.length_append
      _ ≤ u.asked + (e.entries f u.chipPending).length := Nat.add_le_add_right h _
      _ ≤ (e.after u f).asked := e.entries_length_le u f _

theorem sendsOnlyFrames_base (h : s.SendsOnlyFrames) (i : Instr) : (s.base i).SendsOnlyFrames := by
  intro x hx
  rw [State.base_log] at hx
  rw [State.base_params]
  exact h x hx

/-- A bus sequence of an operation's own frame that ends as the answers say. -/
theorem inv_after (h : s.Inv) (hadm : s.Admits i) (he : s.ending i = .next e) :
    (e.after (s.base i) (encode s.params i)).Inv where
  quiet := e.after_quiet _ _
  framesOnly := sendsOnlyFrames_after (sendsOnlyFrames_base h.framesOnly i) (by
    rw [State.base_params]
    exact classify_encode_of_admits hadm)
  allowed := returnsAllowed_append h.allowed (fun r => ending_results_allowed he) (by
    rw [Ending.after_returned, State.base_returned])
  logAnswered := logAnswered_after (by
    rw [State.base_log, State.base_asked]
    exact h.logAnswered)

/-- Every operation keeps the invariant. -/
theorem exec_keeps_inv (hs : s.Inv) (h : exec i s = .next t) : t.Inv := by
  obtain ⟨r, hr, rfl⟩ | ⟨cfg, c, rfl, _, _, rfl⟩ | ⟨hadm, e, he, rfl⟩ := exec_next_inv h
  · exact inv_returns hs (responseResult_allowed hr)
  · exact inv_afterFailedInit hs c
  · exact inv_after hs hadm he

/-- The invariant says nothing of what the host still issues. -/
theorem inv_with_program (h : s.Inv) (rest : List Issued) : ({ s with program := rest } : State).Inv :=
  ⟨h.quiet, h.framesOnly, h.allowed, h.logAnswered⟩

/-- Settles O48, over the three things a step can do. -/
theorem everyStepKeepsTheInvariant : Obligations.EveryStepKeepsTheInvariant := by
  unfold Obligations.EveryStepKeepsTheInvariant
  intro s t hs h
  obtain rfl | ⟨i, rest, hexec⟩ | ⟨rest, _, rfl⟩ := step_next_cases h
  · exact hs
  · exact exec_keeps_inv (inv_with_program hs rest) hexec
  · exact inv_afterReset (inv_with_program hs rest).allowed

/-- Settles O49: nothing is logged or returned yet. -/
theorem resetMeetsTheInvariant : Obligations.ResetMeetsTheInvariant := by
  unfold Obligations.ResetMeetsTheInvariant
  exact ⟨State.reset_quiet, nofun, nofun, Nat.le_refl 0⟩

end Sys2Proof.Machine
end
